-- ==== Sys2Proof/Word.lean ====
section
/-! DEFINITION. The word types of the block (00_scope.md section 7: `u4`, `u8`, `u16`). -/

namespace Sys2Proof

/-- `u4`: one nibble. -/
abbrev Nibble := BitVec 4

/-- `u8`: one byte of the wire, of a slot or of the framebuffer. -/
abbrev Byte := BitVec 8

/-- `u16`: a CRC value or the version word. -/
abbrev Half := BitVec 16

end Sys2Proof
end

