-- ==== Sys2Proof/Config.lean ====
section
/-! DEFINITION. The constants the source fixes (00_scope.md R18), the parameters the spec tells a model to take as
arguments (R19, 92_eei_decisions.md section 7) and the free values. The parameters and the two ROMs are plain data held in
`State.cfg`, so that a statement about every state holds for every value of them. -/

namespace Sys2Proof

/-! ### Constants of R18 -/

/-- Start of frame (R87). -/
def STX : Byte := 0x02
/-- End of frame (R87). -/
def ETX : Byte := 0x03
/-- The pad byte (R87). -/
def NUL : Byte := 0x00
/-- The reflected CRC-16/ARC polynomial (R110). -/
def CRC_POLY : Half := 0xA001
/-- Columns of the gap before a right icon (R224). -/
def GAP : Nat := 3
/-- Columns of a QR bitmap (R236). -/
def QR_W : Nat := 45
/-- Columns of a page (R47). -/
def N_COLS : Nat := 128
/-- Pages of the framebuffer (R47). -/
def N_PAGES : Nat := 6
/-- Pixel rows of the framebuffer (R18). -/
def FB_ROWS : Nat := 48
/-- Upper limit of a buzzer frequency code (R163). -/
def FREQ_MAX : Byte := 0xC8
/-- Upper limit of a buzzer cycle count (R165). -/
def CYCLES_MAX : Byte := 63
/-- Bitmap bytes of a glyph at most (R18, R53). -/
def GLYPH_MAX_BYTES : Nat := 64
/-- Longest text `PUT_LINE` accepts (R232). -/
def LINE_BUDGET : Nat := 19
/-- Logical text lines (R18). -/
def N_LINES : Nat := 4

/-! ### The command catalog (R91) -/

/-- The eight live commands, in the order the source lists them twice (R92). -/
inductive Cmd where
  | rdkeys | wrline | setbl | clrdsp | setlang | getver | buzparam | buzctrl
deriving DecidableEq, Repr

/-- The catalog in the listed order. -/
def Cmd.all : List Cmd := [.rdkeys, .wrline, .setbl, .clrdsp, .setlang, .getver, .buzparam, .buzctrl]

/-- A command's place in the listed order. -/
def Cmd.index : Cmd → Fin 8
  | .rdkeys => 0 | .wrline => 1 | .setbl => 2 | .clrdsp => 3
  | .setlang => 4 | .getver => 5 | .buzparam => 6 | .buzctrl => 7

/-- Request payload length in bytes (R91, column `REQ_LEN`). -/
def Cmd.reqLen : Cmd → Nat
  | .rdkeys => 0 | .wrline => 20 | .setbl => 1 | .clrdsp => 0
  | .setlang => 1 | .getver => 0 | .buzparam => 2 | .buzctrl => 3

/-- Response payload length in bytes (R91, column `RESP_LEN`). -/
def Cmd.respLen : Cmd → Nat
  | .rdkeys => 1 | .wrline => 0 | .setbl => 0 | .clrdsp => 0
  | .setlang => 0 | .getver => 2 | .buzparam => 2 | .buzctrl => 0

/-- The id the opcode table and R91 give a command: 1 to 8 in the listed order. -/
def Cmd.tableId (c : Cmd) : Byte := BitVec.ofNat 8 (c.index.val + 1)

/-! ### Parameters (R19) -/

/-- One line's place in pixel rows, `(upper_indent, height)` (R46). -/
structure LineLayout where
  upperIndent : BitVec 6
  height : BitVec 6
deriving DecidableEq, Repr

/-- One entry of the glyph ROM as the source gives it: width, at most 64 bitmap bytes, flags (R53, R99). A shorter bitmap
ends in bytes 0 (log 19). -/
structure GlyphEntry where
  width : Nat
  bitmap : Vector Byte GLYPH_MAX_BYTES
  isBlinking : Bool
  trimmable : Bool
deriving DecidableEq, Repr

/-- The entry of width 0. -/
def GlyphEntry.blank : GlyphEntry :=
  { width := 0, bitmap := Vector.replicate GLYPH_MAX_BYTES 0, isBlinking := false, trimmable := false }

/-- Every parameter of R19 that a model takes as an argument, and the ROMs of R53 and R56. Nothing in the block writes it. -/
structure Config where
  /-- id of each command, in the listed order (`CMD_MAP`, D1) -/
  cmdMap : Vector Byte 8
  /-- `CATALOG_SIZE` (D1) -/
  catalogSize : Nat
  /-- `ERR_MASK` (D2) -/
  errMask : Byte
  /-- `HEX_ACCEPT_LOWER` (D3) -/
  hexAcceptLower : Bool
  /-- `CRC_INIT` (D4) -/
  crcInit : Half
  /-- `BUZ_FREQ` (D11) -/
  buzFreq : Byte
  /-- `BUZ_DUTY` (D11) -/
  buzDuty : Byte
  /-- `FREQ_MIN` (D11) -/
  freqMin : Byte
  /-- `DUTY_MIN` (D11) -/
  dutyMin : Byte
  /-- `DUTY_MAX` (D11) -/
  dutyMax : Byte
  /-- `ACT_OFF` (D11) -/
  actOff : Byte
  /-- `ACT_ON` (D11) -/
  actOn : Byte
  /-- `ACT_BEEP` (D11) -/
  actBeep : Byte
  /-- place of the type in a buzzer-param payload (D11, payload layout) -/
  buzTypeAt : Fin 2
  /-- place of the value in a buzzer-param payload (D11, payload layout) -/
  buzValueAt : Fin 2
  /-- place of the action in a buzzer-ctrl payload (D11, payload layout) -/
  ctrlActionAt : Fin 3
  /-- place of the cycle count in a buzzer-ctrl payload (D11, payload layout) -/
  ctrlCyclesAt : Fin 3
  /-- `VERSION`, the reference dispatcher's version word (D12) -/
  version : Half
  /-- `VER_BITS` (D17) -/
  verBits : Nat
  /-- `FMT_BITS`: position of `INV` in the format byte (D20) -/
  fmtInv : Fin 8
  /-- `FMT_BITS`: position of `AL` (D20) -/
  fmtAl : Fin 8
  /-- `FMT_BITS`: position of `AR` (D20) -/
  fmtAr : Fin 8
  /-- `FMT_BITS`: position of `BLINK` (D20) -/
  fmtBlink : Fin 8
  /-- `GLYPH_BPC`: bitmap bytes per glyph column (D21) -/
  glyphBpc : Nat
  /-- `GLYPH`, the glyph ROM (R53) -/
  glyph : Vector GlyphEntry 256
  /-- `LINE_LAYOUT`, the layout `RESET` installs (D22) -/
  lineLayout : Vector LineLayout 4
  /-- `INTERNAL_KEEPS_TASK` (D25) -/
  internalKeepsTask : Bool
  /-- `QR`, the QR ROM: version 3 + i, page, column (R56) -/
  qr : Vector (Vector (Vector Byte 45) 6) 5
  /-- `DATA_SELECT`, bit 8 of a data word (D29) -/
  dataSelect : Bool
deriving DecidableEq, Repr

/-- The defaults of R19. The two ROMs have no content in any source: they start blank (assumption log 4). -/
def Config.default : Config where
  cmdMap := Vector.ofFn fun i => BitVec.ofNat 8 (i.val + 1)
  catalogSize := 9
  errMask := 0x80
  hexAcceptLower := false
  crcInit := 0x0000
  buzFreq := 0x00
  buzDuty := 0x01
  freqMin := 0x00
  dutyMin := 0x00
  dutyMax := 0x64
  actOff := 0
  actOn := 1
  actBeep := 2
  buzTypeAt := 0
  buzValueAt := 1
  ctrlActionAt := 0
  ctrlCyclesAt := 1
  version := 0x0107
  verBits := 32
  fmtInv := 0
  fmtAl := 1
  fmtAr := 2
  fmtBlink := 3
  glyphBpc := 2
  glyph := Vector.replicate 256 GlyphEntry.blank
  lineLayout := Vector.replicate 4 { upperIndent := 2, height := 10 }
  internalKeepsTask := true
  qr := Vector.replicate 5 (Vector.replicate 6 (Vector.replicate 45 0))
  dataSelect := true

/-! ### Free values -/

/-- The oracle byte the reference dispatcher answers read-keys with (R171), one for each call: nothing constrains it
(assumption log 6). -/
opaque Config.keyByte : Nat → Byte

/-- The result of `VALIDATE` for an id to which R161 gives none (1, 4, 6 and every id of no command): nothing constrains
it (assumption log 7). -/
opaque Config.validateUnstated : Byte → Vector Byte 20 → Bool

/-- The request payload length of an id other than 0 that `CMD_MAP` gives to no command, to which R57 and R91 give none:
nothing constrains it but `MAX_REQ_PAYLOAD` (R18; assumption log 29). -/
opaque Config.reqLenUnstated : Byte → Fin 21

/-- The response payload length of such an id: nothing constrains it but `MAX_RESP_PAYLOAD` (R18; assumption log 29). -/
opaque Config.respLenUnstated : Byte → Fin 3

/-- The bytes the reference binding, which R171 gives for the commands alone, answers for an id that names none: nothing
constrains them (assumption log 29). -/
opaque Config.replyUnstated : Byte → Nat → Byte

/-- The payload bytes a `DISPATCH` of an id lacks where it is run with fewer than `REQ_LEN[id]`: nothing constrains them
(assumption log 18). -/
opaque Config.missingByte : Byte → Nat → Byte

end Sys2Proof
end

