-- ==== Sys2Proof/Machine/Codec.lean ====
section
/-! DEFINITION. The CRC-16 unit, the nibble codec, the delimiter detector and the wire form of a frame
(40_crc_and_nibble_codec.md, 30_encoding.md section 1): pure functions, used by the decoder, the encoder and the machine. -/

namespace Sys2Proof

/-! ### CRC-16 (R110 to R115) -/

/-- One of the eight steps of R111. -/
def crcStep (c : Half) : Half := if c.getLsbD 0 then (c >>> 1) ^^^ CRC_POLY else c >>> 1

/-- `k` steps of R111. -/
def crcSteps : Nat → Half → Half
  | 0, c => c
  | k + 1, c => crcSteps k (crcStep c)

/-- `CRC16_UPDATE` (R111). -/
def crc16Update (crc : Half) (b : Byte) : Half := crcSteps 8 (crc ^^^ b.zeroExtend 16)

/-- `CRC16` from the initial value `init` (R112). -/
def crc16 (init : Half) (bytes : List Byte) : Half := bytes.foldl crc16Update init

/-! ### Nibble codec and delimiters (R116 to R121) -/

/-- `HEX2NIB` (R116): the digit's value, `none` where the rule answers `ok = 0`. -/
def hex2nib (acceptLower : Bool) (b : Byte) : Option Nibble :=
  if 0x30 ≤ b ∧ b ≤ 0x39 then some ((b - 0x30).truncate 4)
  else if 0x41 ≤ b ∧ b ≤ 0x46 then some ((b - 0x41 + 10).truncate 4)
  else if acceptLower ∧ 0x61 ≤ b ∧ b ≤ 0x66 then some ((b - 0x61 + 10).truncate 4)
  else none

/-- `NIB2HEX` (R117). -/
def nib2hex (n : Nibble) : Byte := if n < 10 then 0x30 + n.zeroExtend 8 else 0x41 + (n.zeroExtend 8 - 10)

/-- `HEX2` (R119): high nibble first. -/
def hex2 (v : Byte) : List Byte := [nib2hex (v.extractLsb' 4 4), nib2hex (v.extractLsb' 0 4)]

/-- `HEX4` (R120): most significant nibble first. -/
def hex4 (v : Half) : List Byte :=
  [nib2hex (v.extractLsb' 12 4), nib2hex (v.extractLsb' 8 4), nib2hex (v.extractLsb' 4 4), nib2hex (v.extractLsb' 0 4)]

/-- `IS_STX` (R121). -/
def isStx (b : Byte) : Bool := b == STX

/-- `IS_ETX` (R121). -/
def isEtx (b : Byte) : Bool := b == ETX

/-! ### The opcode table's numbering of the commands (R91, R92) -/

/-- The command an id names in the table's numbering: 1 to 8 in the listed order. -/
def tableCmd (id : Byte) : Option Cmd := Cmd.all.find? fun c => c.tableId == id

/-! ### Wire form of a frame (R85, R86) -/

/-- The bytes the CRC of a frame covers: packet number, command field, payload, each as hex digits (R89). -/
def frameBody (pn cmd : Byte) (payload : List Byte) : List Byte := hex2 pn ++ hex2 cmd ++ payload.flatMap hex2

/-- What follows the opening `STX` of a frame (R85, R86). -/
def frameTail (pn cmd : Byte) (payload : List Byte) (crc : Half) : List Byte :=
  frameBody pn cmd payload ++ hex4 crc ++ [ETX, NUL]

/-- A whole frame in order of transmission (R85). -/
def frameBytes (pn cmd : Byte) (payload : List Byte) (crc : Half) : List Byte := STX :: frameTail pn cmd payload crc

end Sys2Proof
end

