-- ==== Sys2Proof/Syntax.lean ====
section
/-! DEFINITION. The instructions: one constructor per row of spec/opcode_table.json. The block has no instruction set
(R2); its rows are wire commands, wire symbols, field values, events and operations (30_encoding.md R93, 00_scope.md R3).
What running a row of each format means is assumption log 2. -/

namespace Sys2Proof

/-- The error classes that take the error path (60_exceptions.md R266). Class 1, `FRAMING`, does not. -/
inductive ErrClass where
  | decode | validation | checksum
deriving DecidableEq, Repr

/-- One constructor per row of the opcode table. Operands are the ones the row or its rule names. -/
inductive Instr where
  -- request frames: packet number, payload, received CRC (R85)
  | rdkeys (pn : Byte) (crc : Half)
  | wrline (pn : Byte) (payload : Vector Byte 20) (crc : Half)
  | setbl (pn p0 : Byte) (crc : Half)
  | clrdsp (pn : Byte) (crc : Half)
  | setlang (pn p0 : Byte) (crc : Half)
  | getver (pn : Byte) (crc : Half)
  | buzparam (pn p0 p1 : Byte) (crc : Half)
  | buzctrl (pn p0 p1 p2 : Byte) (crc : Half)
  -- the command/status byte of a response: its id bits (R90)
  | csNoerr (id : Nibble)
  | csErr (id : Nibble)
  -- wire symbols (R87, R88)
  | stx
  | etx
  | nul
  | digit0
  | digit1
  | digit2
  | digit3
  | digit4
  | digit5
  | digit6
  | digit7
  | digit8
  | digit9
  | digitA
  | digitB
  | digitC
  | digitD
  | digitE
  | digitF
  -- format-byte flags: the format byte, the line, its left icon and its 17 glyph codes (R97, R98)
  | fmtInv (f : Byte) (line : Byte) (icon : Byte) (codes : Vector Byte 17)
  | fmtAl (f : Byte) (line : Byte) (icon : Byte) (codes : Vector Byte 17)
  | fmtAr (f : Byte) (line : Byte) (icon : Byte) (codes : Vector Byte 17)
  | fmtBlink (f : Byte) (line : Byte) (icon : Byte) (codes : Vector Byte 17)
  -- controller words and commands (R100, R252)
  | ctrlData (pixels : Byte)
  | pageSelect (p : Fin 6)
  | columnAddress (c : Byte)
  | displayOn
  -- input events (R280)
  | reset
  | rxByte (b : Byte)
  | txDone
  | tick
  | drainStep
  -- output events
  | txPut (b : Byte)
  | dispatch (id : Byte) (payload : List Byte)
  | schedArm
  -- CRC unit and nibble codec (file 40)
  | crc16Update (crc : Half) (b : Byte)
  | crc16 (bytes : List Byte)
  | hex2nib (b : Byte)
  | nib2hex (n : Nibble)
  | hex2 (v : Byte)
  | hex4 (v : Half)
  | isStx (b : Byte)
  | isEtx (b : Byte)
  -- request machine (file 41)
  | rxStx
  | rxNoise
  | rxEtx
  | rxVpn (n : Nibble)
  | rxVcmd (n : Nibble)
  | rxVpay (n : Nibble)
  | rxVcrc (n : Nibble)
  | rxErrorPath (cls : ErrClass)
  | validate (id : Byte) (payload : Vector Byte 20)
  -- response machine (file 43)
  | arm (s : Fin 3)
  | txPump
  | txNext
  | txFill (s : Fin 3)
  -- framebuffer and rendering (files 44, 45)
  | writeBits (value startBit width column : Nat)
  | trim (code : Byte)
  | tw (code : Byte)
  | stuffChar (row0 h inv : Nat) (hide : Bool) (code : Byte) (col colHi : Nat)
  | blankCol (row0 h inv col : Nat)
  | renderLine (line : Nat) (content : Vector Byte 20) (isInternal : Bool)
  | putLine (text : List Byte) (line : Nat)
  | putQr (version offset : Nat) (contrast : Byte)
  | fbClear
  | blinkTick
  -- slot clear and the pieces of the field states (R29, R126, R130, R137)
  | clearSlot (i : Fin 3)
  | rxFieldDigit (b : Byte)
  | rxDecodeError (b : Byte)
  | rxFieldChoice
deriving DecidableEq, Repr

end Sys2Proof
end

