-- ==== Sys2Proof/Decode.lean ====
section
/-! DEFINITION. The decoder and the encoder. The block fetches nothing (R30): an instruction reaches the model as a PACKET,
a list of bytes whose first byte is a tag and whose rest is the row's own encoding where the spec gives one (the request
frame of R85, the wire byte of R87 and R88, the status byte of R90, the format byte of R97, the data word of R100) and its
operands otherwise. Tags and operand layouts are the model's own (assumption log 1). -/

namespace Sys2Proof

/-! ### Tags -/

/-- The first byte of a packet. -/
inductive Tag where
  | wire | frame | status | fmtInv | fmtAl | fmtAr | fmtBlink | dataWord
  | pageSelect | columnAddress | displayOn
  | reset | rxByte | txDone | tick | drainStep
  | txPut | dispatch | schedArm
  | crc16Update | crc16 | hex2nib | nib2hex | hex2 | hex4 | isStx | isEtx
  | rxStx | rxNoise | rxEtx | rxVpn | rxVcmd | rxVpay | rxVcrc | rxErrorPath | validate
  | arm | txPump | txNext | txFill
  | writeBits | trim | tw | stuffChar | blankCol | renderLine | putLine | putQr | fbClear | blinkTick
  | clearSlot | rxFieldDigit | rxDecodeError | rxFieldChoice
deriving DecidableEq, Repr

/-- A tag's byte. -/
def Tag.toByte : Tag → Byte
  | .wire => 0x01 | .frame => 0x02 | .status => 0x03
  | .fmtInv => 0x04 | .fmtAl => 0x05 | .fmtAr => 0x06 | .fmtBlink => 0x07 | .dataWord => 0x08
  | .pageSelect => 0x10 | .columnAddress => 0x11 | .displayOn => 0x12
  | .reset => 0x20 | .rxByte => 0x21 | .txDone => 0x22 | .tick => 0x23 | .drainStep => 0x24
  | .txPut => 0x28 | .dispatch => 0x29 | .schedArm => 0x2A
  | .crc16Update => 0x30 | .crc16 => 0x31 | .hex2nib => 0x32 | .nib2hex => 0x33
  | .hex2 => 0x34 | .hex4 => 0x35 | .isStx => 0x36 | .isEtx => 0x37
  | .rxStx => 0x40 | .rxNoise => 0x41 | .rxEtx => 0x42 | .rxVpn => 0x43 | .rxVcmd => 0x44
  | .rxVpay => 0x45 | .rxVcrc => 0x46 | .rxErrorPath => 0x47 | .validate => 0x48
  | .rxFieldDigit => 0x49 | .rxDecodeError => 0x4A | .rxFieldChoice => 0x4B | .clearSlot => 0x4C
  | .arm => 0x50 | .txPump => 0x51 | .txNext => 0x52 | .txFill => 0x53
  | .writeBits => 0x60 | .trim => 0x61 | .tw => 0x62 | .stuffChar => 0x63 | .blankCol => 0x64
  | .renderLine => 0x65 | .putLine => 0x66 | .putQr => 0x67 | .fbClear => 0x68 | .blinkTick => 0x69

/-- Every tag. -/
def Tag.all : List Tag :=
  [.wire, .frame, .status, .fmtInv, .fmtAl, .fmtAr, .fmtBlink, .dataWord, .pageSelect, .columnAddress, .displayOn,
   .reset, .rxByte, .txDone, .tick, .drainStep, .txPut, .dispatch, .schedArm,
   .crc16Update, .crc16, .hex2nib, .nib2hex, .hex2, .hex4, .isStx, .isEtx,
   .rxStx, .rxNoise, .rxEtx, .rxVpn, .rxVcmd, .rxVpay, .rxVcrc, .rxErrorPath, .validate,
   .rxFieldDigit, .rxDecodeError, .rxFieldChoice, .clearSlot, .arm, .txPump, .txNext, .txFill,
   .writeBits, .trim, .tw, .stuffChar, .blankCol, .renderLine, .putLine, .putQr, .fbClear, .blinkTick]

/-- The tag a byte spells. -/
def Tag.ofByte (b : Byte) : Option Tag := Tag.all.find? fun t => t.toByte == b

/-- Why a packet is no instruction. -/
inductive DecodeError where
  /-- a packet with no byte -/
  | emptyPacket
  /-- its first byte is no tag -/
  | unknownTag (b : Byte)
  /-- the bytes after the tag are not the operands of that tag's row -/
  | badOperands (t : Tag)
  /-- a byte outside the wire alphabet of R87 and R88 under the wire tag -/
  | notWireSymbol (b : Byte)
  /-- a status nibble other than 0 and 8 (R90) -/
  | badStatusNibble (b : Byte)
  /-- a 9-bit word whose bit 8 is not the data selector (R100) -/
  | notDataWord
  /-- not a request frame of R85 -/
  | badFrame
deriving DecidableEq, Repr

/-- What the decoder answers. -/
inductive Decoded where
  | ok (i : Instr)
  | bad (e : DecodeError)
deriving DecidableEq, Repr

/-! ### Field helpers -/

/-- The `k` bytes of `v`, most significant first. -/
def beBytes : Nat → Nat → List Byte
  | 0, _ => []
  | k + 1, v => beBytes k (v / 256) ++ [BitVec.ofNat 8 v]

/-- The number whose bytes, most significant first, are `bs`. -/
def beNat (bs : List Byte) : Nat := bs.foldl (fun n b => n * 256 + b.toNat) 0

/-- A list of exactly `n` bytes as a vector. -/
def vecOf (n : Nat) (bs : List Byte) : Option (Vector Byte n) :=
  if h : bs.length = n then some ⟨bs.toArray, by simpa using h⟩ else none

/-- `0` or `1` as a flag. -/
def flagOf (b : Byte) : Option Bool := if b = 0 then some false else if b = 1 then some true else none

/-- A flag as a byte. -/
def flagByte (f : Bool) : Byte := if f then 1 else 0

/-- A byte below `n` as an index. -/
def finOf (n : Nat) (b : Byte) : Option (Fin n) := if h : b.toNat < n then some ⟨b.toNat, h⟩ else none

/-- An index as a byte. -/
def finByte {n : Nat} (i : Fin n) : Byte := BitVec.ofNat 8 i.val

/-- A nibble held in a byte. -/
def nibOf (b : Byte) : Option Nibble := if b.toNat < 16 then some (b.truncate 4) else none

/-- The class number of R266. -/
def ErrClass.code : ErrClass → Byte
  | .decode => 2 | .validation => 3 | .checksum => 4

/-- The class a number of R266 names. -/
def ErrClass.ofCode (b : Byte) : Option ErrClass :=
  if b = 2 then some .decode else if b = 3 then some .validation else if b = 4 then some .checksum else none

/-- An instruction, or the operand error of `t`. -/
def orBad (t : Tag) : Option Instr → Decoded
  | some i => .ok i
  | none => .bad (.badOperands t)

/-- A row with no operand. -/
def noOperand (t : Tag) (i : Instr) : List Byte → Decoded
  | [] => .ok i
  | _ => .bad (.badOperands t)

/-- A row with one byte of operand. -/
def oneByte (t : Tag) (f : Byte → Option Instr) : List Byte → Decoded
  | [b] => orBad t (f b)
  | _ => .bad (.badOperands t)

/-! ### Wire symbols (R87, R88) -/

/-- The row of a wire byte. -/
def wireSymbol (b : Byte) : Option Instr :=
  match b.toNat with
  | 0x02 => some .stx
  | 0x03 => some .etx
  | 0x00 => some .nul
  | 0x30 => some .digit0
  | 0x31 => some .digit1
  | 0x32 => some .digit2
  | 0x33 => some .digit3
  | 0x34 => some .digit4
  | 0x35 => some .digit5
  | 0x36 => some .digit6
  | 0x37 => some .digit7
  | 0x38 => some .digit8
  | 0x39 => some .digit9
  | 0x41 => some .digitA
  | 0x42 => some .digitB
  | 0x43 => some .digitC
  | 0x44 => some .digitD
  | 0x45 => some .digitE
  | 0x46 => some .digitF
  | _ => none

/-- A wire byte under the wire tag. -/
def decodeWire : List Byte → Decoded
  | [b] => match wireSymbol b with
    | some i => .ok i
    | none => .bad (.notWireSymbol b)
  | _ => .bad (.badOperands .wire)

/-! ### Request frames (R85) -/

/-- One byte from its two uppercase digits (R94). -/
def takeByte : List Byte → Option (Byte × List Byte)
  | a :: b :: rest =>
    match hex2nib false a, hex2nib false b with
    | some x, some y => some (x ++ y, rest)
    | _, _ => none
  | _ => none

/-- `n` bytes from `2n` digits. -/
def takeBytes : Nat → List Byte → Option (List Byte × List Byte)
  | 0, bs => some ([], bs)
  | n + 1, bs =>
    match takeByte bs with
    | none => none
    | some (v, rest) =>
      match takeBytes n rest with
      | none => none
      | some (vs, rest') => some (v :: vs, rest')

/-- The CRC field, its four digits (R95), and the closing `ETX` and `NUL`. -/
def takeCrc (bs : List Byte) : Option Half :=
  match takeByte bs with
  | none => none
  | some (hi, rest) =>
    match takeByte rest with
    | none => none
    | some (lo, rest') => if rest' = [ETX, NUL] then some (hi ++ lo) else none

/-- The row of a command with its operands (R91). -/
def frameInstr (c : Cmd) (pn : Byte) (payload : List Byte) (crc : Half) : Option Instr :=
  match c, payload with
  | .rdkeys, [] => some (.rdkeys pn crc)
  | .wrline, p => (vecOf 20 p).map fun v => .wrline pn v crc
  | .setbl, [p0] => some (.setbl pn p0 crc)
  | .clrdsp, [] => some (.clrdsp pn crc)
  | .setlang, [p0] => some (.setlang pn p0 crc)
  | .getver, [] => some (.getver pn crc)
  | .buzparam, [p0, p1] => some (.buzparam pn p0 p1 crc)
  | .buzctrl, [p0, p1, p2] => some (.buzctrl pn p0 p1 p2 crc)
  | _, _ => none

/-- A request frame of R85, read field by field; its length is decided by the command id (R96). -/
def parseFrame (bs : List Byte) : Option Instr :=
  match bs with
  | [] => none
  | s :: bs1 =>
    if s = STX then
      match takeByte bs1 with
      | none => none
      | some (pn, bs2) =>
        match takeByte bs2 with
        | none => none
        | some (id, bs3) =>
          match tableCmd id with
          | none => none
          | some c =>
            match takeBytes c.reqLen bs3 with
            | none => none
            | some (payload, bs4) =>
              match takeCrc bs4 with
              | none => none
              | some crc => frameInstr c pn payload crc
    else none

/-- A request frame under the frame tag: the table's ids and uppercase digits, whatever `CMD_MAP` and `HEX_ACCEPT_LOWER` are
(DESIGN CHOICE, log 27). -/
def decodeFrame (bs : List Byte) : Decoded :=
  match parseFrame bs with
  | some i => .ok i
  | none => .bad .badFrame

/-! ### Field values -/

/-- A command/status byte (R90). A packet has the table's `ERR` bit, 7, whatever `ERR_MASK` is; running the row uses the
parameter (DESIGN CHOICE, log 27). -/
def decodeStatus : List Byte → Decoded
  | [b] =>
    if b.extractLsb' 4 4 = 0x0 then .ok (.csNoerr (b.extractLsb' 0 4))
    else if b.extractLsb' 4 4 = 0x8 then .ok (.csErr (b.extractLsb' 0 4))
    else .bad (.badStatusNibble b)
  | _ => .bad (.badOperands .status)

/-- A format byte with its flag set (R97), and the line it stands in (R98). The flag is at the table's bit whatever `FMT_BITS`
is; running the row uses the parameter (DESIGN CHOICE, log 27). -/
def decodeFormat (t : Tag) (bit : Nat) (f : Byte → Byte → Byte → Vector Byte 17 → Instr) : List Byte → Decoded
  | b :: line :: icon :: codes => orBad t (if b.getLsbD bit then (vecOf 17 codes).map (f b line icon) else none)
  | _ => .bad (.badOperands t)

/-- A 9-bit controller data word, high byte first (R68, R100). A packet has the table's bit 8, 1, whatever `DATA_SELECT` is;
running the row puts the parameter there (DESIGN CHOICE, log 27). -/
def decodeDataWord : List Byte → Decoded
  | [hi, lo] => if hi = 1 then .ok (.ctrlData lo) else .bad .notDataWord
  | _ => .bad (.badOperands .dataWord)

/-! ### The decoder -/

/-- The instruction of a tag and the bytes after it. -/
def decodeBody (t : Tag) (bs : List Byte) : Decoded :=
  match t with
  | .wire => decodeWire bs
  | .frame => decodeFrame bs
  | .status => decodeStatus bs
  | .fmtInv => decodeFormat .fmtInv 0 .fmtInv bs
  | .fmtAl => decodeFormat .fmtAl 1 .fmtAl bs
  | .fmtAr => decodeFormat .fmtAr 2 .fmtAr bs
  | .fmtBlink => decodeFormat .fmtBlink 3 .fmtBlink bs
  | .dataWord => decodeDataWord bs
  | .pageSelect => oneByte t (fun b => (finOf 6 b).map .pageSelect) bs
  | .columnAddress => oneByte t (fun b => some (.columnAddress b)) bs
  | .displayOn => noOperand t .displayOn bs
  | .reset => noOperand t .reset bs
  | .rxByte => oneByte t (fun b => some (.rxByte b)) bs
  | .txDone => noOperand t .txDone bs
  | .tick => noOperand t .tick bs
  | .drainStep => noOperand t .drainStep bs
  | .txPut => oneByte t (fun b => some (.txPut b)) bs
  | .dispatch =>
    match bs with
    | id :: payload => .ok (.dispatch id payload)
    | [] => .bad (.badOperands t)
  | .schedArm => noOperand t .schedArm bs
  | .crc16Update =>
    match bs with
    | [hi, lo, b] => .ok (.crc16Update (hi ++ lo) b)
    | _ => .bad (.badOperands t)
  | .crc16 => .ok (.crc16 bs)
  | .hex2nib => oneByte t (fun b => some (.hex2nib b)) bs
  | .nib2hex => oneByte t (fun b => (nibOf b).map .nib2hex) bs
  | .hex2 => oneByte t (fun b => some (.hex2 b)) bs
  | .hex4 =>
    match bs with
    | [hi, lo] => .ok (.hex4 (hi ++ lo))
    | _ => .bad (.badOperands t)
  | .isStx => oneByte t (fun b => some (.isStx b)) bs
  | .isEtx => oneByte t (fun b => some (.isEtx b)) bs
  | .rxStx => noOperand t .rxStx bs
  | .rxNoise => noOperand t .rxNoise bs
  | .rxEtx => noOperand t .rxEtx bs
  | .rxVpn => oneByte t (fun b => (nibOf b).map .rxVpn) bs
  | .rxVcmd => oneByte t (fun b => (nibOf b).map .rxVcmd) bs
  | .rxVpay => oneByte t (fun b => (nibOf b).map .rxVpay) bs
  | .rxVcrc => oneByte t (fun b => (nibOf b).map .rxVcrc) bs
  | .rxErrorPath => oneByte t (fun b => (ErrClass.ofCode b).map .rxErrorPath) bs
  | .validate =>
    match bs with
    | id :: p =>
      orBad t ((vecOf 20 p).map (.validate id))
    | [] => .bad (.badOperands t)
  | .arm => oneByte t (fun b => (finOf 3 b).map .arm) bs
  | .txPump => noOperand t .txPump bs
  | .txNext => noOperand t .txNext bs
  | .txFill => oneByte t (fun b => (finOf 3 b).map .txFill) bs
  | .writeBits =>
    match bs with
    | start :: width :: column :: value =>
      if value.length = 8 then .ok (.writeBits (beNat value) start.toNat width.toNat column.toNat)
      else .bad (.badOperands t)
    | _ => .bad (.badOperands t)
  | .trim => oneByte t (fun b => some (.trim b)) bs
  | .tw => oneByte t (fun b => some (.tw b)) bs
  | .stuffChar =>
    match bs with
    | row0 :: h :: hide :: code :: col :: colHi :: inv =>
      orBad t (if inv.length = 8 then
          (flagOf hide).map fun f => .stuffChar row0.toNat h.toNat (beNat inv) f code col.toNat colHi.toNat
        else none)
    | _ => .bad (.badOperands t)
  | .blankCol =>
    match bs with
    | row0 :: h :: col :: inv =>
      if inv.length = 8 then .ok (.blankCol row0.toNat h.toNat (beNat inv) col.toNat) else .bad (.badOperands t)
    | _ => .bad (.badOperands t)
  | .renderLine =>
    match bs with
    | l :: i :: content =>
      orBad t ((flagOf i).bind fun f => (vecOf 20 content).map fun v => .renderLine l.toNat v f)
    | _ => .bad (.badOperands t)
  | .putLine =>
    match bs with
    | l :: text => .ok (.putLine text l.toNat)
    | [] => .bad (.badOperands t)
  | .putQr =>
    match bs with
    | [v, o, c] => .ok (.putQr v.toNat o.toNat c)
    | _ => .bad (.badOperands t)
  | .fbClear => noOperand t .fbClear bs
  | .blinkTick => noOperand t .blinkTick bs
  | .clearSlot => oneByte t (fun b => (finOf 3 b).map .clearSlot) bs
  | .rxFieldDigit => oneByte t (fun b => some (.rxFieldDigit b)) bs
  | .rxDecodeError => oneByte t (fun b => some (.rxDecodeError b)) bs
  | .rxFieldChoice => noOperand t .rxFieldChoice bs

/-- The instruction of a packet, total on any bytes, rejecting by name. -/
def decode : List Byte → Decoded
  | [] => .bad .emptyPacket
  | b :: bs => match Tag.ofByte b with
    | none => .bad (.unknownTag b)
    | some t => decodeBody t bs

/-! ### The encoder -/

/-- A command's frame packet in the table's numbering. -/
def encodeFrame (c : Cmd) (pn : Byte) (payload : List Byte) (crc : Half) : List Byte :=
  Tag.frame.toByte :: frameBytes pn c.tableId payload crc

/-- A format row's packet. -/
def encodeFormat (t : Tag) (f line icon : Byte) (codes : Vector Byte 17) : List Byte :=
  t.toByte :: f :: line :: icon :: codes.toList

/-- A wire symbol's packet. -/
def encodeWire (b : Byte) : List Byte := [Tag.wire.toByte, b]

/-- The packet of an instruction. -/
def encode : Instr → List Byte
  | .rdkeys pn crc => encodeFrame .rdkeys pn [] crc
  | .wrline pn payload crc => encodeFrame .wrline pn payload.toList crc
  | .setbl pn p0 crc => encodeFrame .setbl pn [p0] crc
  | .clrdsp pn crc => encodeFrame .clrdsp pn [] crc
  | .setlang pn p0 crc => encodeFrame .setlang pn [p0] crc
  | .getver pn crc => encodeFrame .getver pn [] crc
  | .buzparam pn p0 p1 crc => encodeFrame .buzparam pn [p0, p1] crc
  | .buzctrl pn p0 p1 p2 crc => encodeFrame .buzctrl pn [p0, p1, p2] crc
  | .csNoerr id => [Tag.status.toByte, (0x0 : Nibble) ++ id]
  | .csErr id => [Tag.status.toByte, (0x8 : Nibble) ++ id]
  | .stx => encodeWire 0x02
  | .etx => encodeWire 0x03
  | .nul => encodeWire 0x00
  | .digit0 => encodeWire 0x30
  | .digit1 => encodeWire 0x31
  | .digit2 => encodeWire 0x32
  | .digit3 => encodeWire 0x33
  | .digit4 => encodeWire 0x34
  | .digit5 => encodeWire 0x35
  | .digit6 => encodeWire 0x36
  | .digit7 => encodeWire 0x37
  | .digit8 => encodeWire 0x38
  | .digit9 => encodeWire 0x39
  | .digitA => encodeWire 0x41
  | .digitB => encodeWire 0x42
  | .digitC => encodeWire 0x43
  | .digitD => encodeWire 0x44
  | .digitE => encodeWire 0x45
  | .digitF => encodeWire 0x46
  | .fmtInv f line icon codes => encodeFormat .fmtInv f line icon codes
  | .fmtAl f line icon codes => encodeFormat .fmtAl f line icon codes
  | .fmtAr f line icon codes => encodeFormat .fmtAr f line icon codes
  | .fmtBlink f line icon codes => encodeFormat .fmtBlink f line icon codes
  | .ctrlData pixels => [Tag.dataWord.toByte, 1, pixels]
  | .pageSelect p => [Tag.pageSelect.toByte, finByte p]
  | .columnAddress c => [Tag.columnAddress.toByte, c]
  | .displayOn => [Tag.displayOn.toByte]
  | .reset => [Tag.reset.toByte]
  | .rxByte b => [Tag.rxByte.toByte, b]
  | .txDone => [Tag.txDone.toByte]
  | .tick => [Tag.tick.toByte]
  | .drainStep => [Tag.drainStep.toByte]
  | .txPut b => [Tag.txPut.toByte, b]
  | .dispatch id payload => Tag.dispatch.toByte :: id :: payload
  | .schedArm => [Tag.schedArm.toByte]
  | .crc16Update crc b => [Tag.crc16Update.toByte, crc.extractLsb' 8 8, crc.extractLsb' 0 8, b]
  | .crc16 bytes => Tag.crc16.toByte :: bytes
  | .hex2nib b => [Tag.hex2nib.toByte, b]
  | .nib2hex n => [Tag.nib2hex.toByte, n.zeroExtend 8]
  | .hex2 v => [Tag.hex2.toByte, v]
  | .hex4 v => [Tag.hex4.toByte, v.extractLsb' 8 8, v.extractLsb' 0 8]
  | .isStx b => [Tag.isStx.toByte, b]
  | .isEtx b => [Tag.isEtx.toByte, b]
  | .rxStx => [Tag.rxStx.toByte]
  | .rxNoise => [Tag.rxNoise.toByte]
  | .rxEtx => [Tag.rxEtx.toByte]
  | .rxVpn n => [Tag.rxVpn.toByte, n.zeroExtend 8]
  | .rxVcmd n => [Tag.rxVcmd.toByte, n.zeroExtend 8]
  | .rxVpay n => [Tag.rxVpay.toByte, n.zeroExtend 8]
  | .rxVcrc n => [Tag.rxVcrc.toByte, n.zeroExtend 8]
  | .rxErrorPath cls => [Tag.rxErrorPath.toByte, cls.code]
  | .validate id payload => Tag.validate.toByte :: id :: payload.toList
  | .arm s => [Tag.arm.toByte, finByte s]
  | .txPump => [Tag.txPump.toByte]
  | .txNext => [Tag.txNext.toByte]
  | .txFill s => [Tag.txFill.toByte, finByte s]
  | .writeBits value startBit width column =>
    Tag.writeBits.toByte :: BitVec.ofNat 8 startBit :: BitVec.ofNat 8 width :: BitVec.ofNat 8 column :: beBytes 8 value
  | .trim code => [Tag.trim.toByte, code]
  | .tw code => [Tag.tw.toByte, code]
  | .stuffChar row0 h inv hide code col colHi =>
    Tag.stuffChar.toByte :: BitVec.ofNat 8 row0 :: BitVec.ofNat 8 h :: flagByte hide :: code :: BitVec.ofNat 8 col
      :: BitVec.ofNat 8 colHi :: beBytes 8 inv
  | .blankCol row0 h inv col =>
    Tag.blankCol.toByte :: BitVec.ofNat 8 row0 :: BitVec.ofNat 8 h :: BitVec.ofNat 8 col :: beBytes 8 inv
  | .renderLine line content isInternal =>
    Tag.renderLine.toByte :: BitVec.ofNat 8 line :: flagByte isInternal :: content.toList
  | .putLine text line => Tag.putLine.toByte :: BitVec.ofNat 8 line :: text
  | .putQr version offset contrast => [Tag.putQr.toByte, BitVec.ofNat 8 version, BitVec.ofNat 8 offset, contrast]
  | .fbClear => [Tag.fbClear.toByte]
  | .blinkTick => [Tag.blinkTick.toByte]
  | .clearSlot i => [Tag.clearSlot.toByte, finByte i]
  | .rxFieldDigit b => [Tag.rxFieldDigit.toByte, b]
  | .rxDecodeError b => [Tag.rxDecodeError.toByte, b]
  | .rxFieldChoice => [Tag.rxFieldChoice.toByte]

/-! ### The opcode table's words -/

/-- `n` hex digits `0`. -/
def zeroDigits (n : Nat) : List Byte := List.replicate n 0x30

/-- A format byte's packet for line 0 with an empty text. -/
def formatPacket (t : Tag) (b : Byte) : List Byte := t.toByte :: b :: List.replicate 19 0

/-- The packet of a one-byte table word. The table's 8-bit rows of three formats overlap (`STX`, `FMT_AL` and `CS_NOERR`
all match `0x02`), so an order is chosen: wire byte; a format byte of one flag alone; a status byte; any other format
byte, by its lowest flag (log 3). -/
def bytePacket (b : Byte) : List Byte :=
  if (wireSymbol b).isSome then encodeWire b
  else if b = 0x01 then formatPacket .fmtInv b
  else if b = 0x04 then formatPacket .fmtAr b
  else if b = 0x08 then formatPacket .fmtBlink b
  else if b.extractLsb' 4 4 = 0x0 ∨ b.extractLsb' 4 4 = 0x8 then [Tag.status.toByte, b]
  else if b.getLsbD 0 then formatPacket .fmtInv b
  else if b.getLsbD 1 then formatPacket .fmtAl b
  else if b.getLsbD 2 then formatPacket .fmtAr b
  else formatPacket .fmtBlink b

/-- The packet of a two-byte table word: the two command digits of a request frame whose other fields are zero digits, or
a 9-bit data word. -/
def pairPacket (hi lo : Byte) : List Byte :=
  match takeByte [hi, lo] with
  | some (id, _) =>
    match tableCmd id with
    | some c =>
      Tag.frame.toByte :: STX :: (zeroDigits 2 ++ [hi, lo] ++ zeroDigits (2 * c.reqLen) ++ zeroDigits 4 ++ [ETX, NUL])
    | none => [Tag.dataWord.toByte, hi, lo]
  | none => [Tag.dataWord.toByte, hi, lo]

/-- The packet of a table word of `nbits` bits: its first byte is the more significant one (R93). A word of 16 bits
whose high byte is 0 is the byte itself. -/
def tablePacket (nbits w : Nat) : List Byte :=
  if nbits ≤ 8 ∨ w < 256 then bytePacket (BitVec.ofNat 8 w)
  else pairPacket (BitVec.ofNat 8 (w / 256)) (BitVec.ofNat 8 w)

/-- The instruction the decoder reads from a table word. -/
def decodeTableWord (nbits w : Nat) : Option Instr :=
  match decode (tablePacket nbits w) with
  | .ok i => some i
  | .bad _ => none

end Sys2Proof
end

