-- ==== Sys2Proof/Machine/State.lean ====
section
/-! DEFINITION. The state of the block (10_state.md), the environment's side of its ports, the two reason types, and the
state after reset (R300, 10_state.md section 7). Fields of the spec come first; the model's own fields stand last and are
listed as such. -/

namespace Sys2Proof.Machine

/-! ### Enumerations and records of the spec -/

/-- `ack_status` (R28). -/
inductive Ack where
  | notReady | toBeSend | sending | sent
deriving DecidableEq, Repr

/-- `rx_state` (R31). -/
inductive RxState where
  | vf | vpn | vcmd | vpay | vcrc
deriving DecidableEq, Repr

/-- One request slot (R20 to R28). -/
structure Slot where
  cmd : Byte
  err : Bool
  pn : Byte
  payload : Vector Byte 20
  resp : Vector Byte 2
  crcRx : Half
  crcCalc : Half
  ack : Ack
deriving DecidableEq, Repr

/-- A slot with every field at its reset value (R29); `init` is `CRC_INIT`. -/
def Slot.cleared (init : Half) : Slot where
  cmd := 0
  err := false
  pn := 0
  payload := Vector.replicate 20 0
  resp := Vector.replicate 2 0
  crcRx := 0
  crcCalc := init
  ack := .notReady

/-- The BlinkTask of a line (R54). -/
structure BlinkTask where
  live : Bool
  code : Byte
  col : Byte
  row0 : BitVec 6
  h : BitVec 6
  inv : BitVec 48
  colHi : Byte
  hide : Bool
deriving DecidableEq, Repr

/-- No task. -/
def BlinkTask.none : BlinkTask :=
  { live := false, code := 0, col := 0, row0 := 0, h := 0, inv := 0, colHi := 0, hide := false }

/-- The framebuffer: the bytes that are not 0, by address `128 * page + column`, addresses rising (log 5). -/
abbrev Memory := List Host.Cell

/-! ### Ports -/

/-- A controller command (R100, R252): opaque and named. -/
inductive CtrlCmd where
  | pageSelect (p : Fin 6)
  | columnAddress (c : Byte)
  | displayOn
deriving DecidableEq, Repr

/-- What an operation returns to its caller (`-> ret v`, R105). -/
inductive Ret where
  | flag (f : Bool)
  | nib (n : Nibble)
  | okNib (ok : Bool) (n : Nibble)
  | byte (b : Byte)
  | half (v : Half)
  | bytes (bs : List Byte)
  | optByte (b : Option Byte)
  | pair (l r : Nat)
  | num (n : Nat)
deriving DecidableEq, Repr

/-- An output event on a port, or a result handed to the caller (R105). -/
inductive Output where
  | txPut (b : Byte)
  | dispatch (id : Byte) (payload : List Byte)
  | ctrlCmd (k : CtrlCmd)
  | ctrlData (w : BitVec 9)
  | schedArm
  | ret (v : Ret)
deriving DecidableEq, Repr

/-- A rendering operation a dispatcher invokes during its call (R17, R170). -/
inductive RenderCall where
  | putLine (text : List Byte) (line : Nat)
  | renderLine (line : Fin 4) (content : Vector Byte 20) (isInternal : Bool)
  | putQr (version offset : Nat) (contrast : Byte)
  | fbClear
deriving DecidableEq, Repr

/-- One answer of the external dispatcher (R170): the operations it invokes, then the response bytes. -/
structure Reply where
  calls : List RenderCall
  resp : Vector Byte 2
deriving DecidableEq, Repr

/-- What the environment gives the block next: an instruction's packet, or the boot-time write of `layout` (R311). -/
inductive Input where
  | packet (bytes : List Byte)
  | layout (l : Vector LineLayout 4)
deriving DecidableEq, Repr

/-! ### The state -/

/-- Everything the spec gives the machine, then the model's own fields. -/
structure State where
  -- request slot ring (R20)
  slots : Vector Slot 3
  -- RX sequencing registers (R31 to R35)
  rxState : RxState
  delim : Bool
  nibCnt : BitVec 2
  payCnt : BitVec 5
  rxIdx : Fin 3
  acc : Byte
  -- TX sequencing registers (R36 to R39)
  txIdx : Fin 3
  txCursor : BitVec 4
  txBuf : Vector Byte 14
  txLen : BitVec 4
  txBusy : Bool
  -- drain cursor (R41)
  drainPage : Fin 6
  drainCol : Fin 128
  -- flags (R43, R44)
  blinkPhase : Bool
  schedArmed : Bool
  -- control register (R46)
  layout : Vector LineLayout 4
  -- framebuffer and version tables (R47, R48)
  fb : Memory
  ver : Vector Nat 6
  sent : Vector Nat 6
  -- line buffers, cache bits, blink tasks (R50 to R54)
  linebuf : Vector (Vector Byte 20) 4
  cacheValid : Vector Bool 4
  task : Vector BlinkTask 4
  -- ROMs and parameters (R19, R53, R56, R57)
  cfg : Config
  -- the model's own: no event since `RESET` (R311), the environment's side of the ports (log 1, 8), the free-value counter (log 6)
  fresh : Bool
  pending : List Input
  replies : List Reply
  keyReads : Nat
  out : List Output
deriving DecidableEq, Repr

/-! ### Reasons to stop -/

/-- No behaviour of the block is a fault (60_exceptions.md R265, 93_implementation_defined.md section 1): the type is
empty, nothing raises it, and that is what the spec says, neither safe nor unsafe. -/
inductive Fault where
deriving DecidableEq, Repr

/-- Why the machine has no meaning for an input. -/
inductive Refusal where
  /-- Raised by an arm of `exec` whose instruction is not modelled; safe. No arm raises it. -/
  | notModelled (mnemonic : String)
  /-- Raised by `RENDER_LINE` called with a line of 4 or more, which a model refuses (R221, U2); safe. -/
  | lineOutOfDomain (line : Nat)
  /-- Raised by a write to `layout` after the first event that follows `RESET`, which a model refuses (R311, U4); safe. -/
  | layoutAfterBoot
  /-- Raised by a write of an illegal `layout`, which a model refuses (R46, U5); safe. -/
  | illegalLayout
  /-- Raised by `step` on a packet that the decoder rejects: no event of the block is one (log 1); safe. -/
  | undecodable (packet : List Byte)
deriving DecidableEq, Repr

/-! ### Reset -/

/-- Every register at its reset value under the parameters `c` (R300), with nothing pending and nothing put out; an illegal
`LINE_LAYOUT` is admitted (U5; DESIGN CHOICE, log 30). -/
def State.resetWith (c : Config) : State where
  slots := Vector.replicate 3 (Slot.cleared c.crcInit)
  rxState := .vf
  delim := false
  nibCnt := 0
  payCnt := 0
  rxIdx := 0
  acc := 0
  txIdx := 0
  txCursor := 0
  txBuf := Vector.replicate 14 0
  txLen := 0
  txBusy := false
  drainPage := 5
  drainCol := 0
  blinkPhase := false
  schedArmed := false
  layout := c.lineLayout
  fb := []
  ver := Vector.replicate 6 0
  sent := Vector.replicate 6 0
  linebuf := Vector.replicate 4 (Vector.replicate 20 0)
  cacheValid := Vector.replicate 4 false
  task := Vector.replicate 4 BlinkTask.none
  cfg := c
  fresh := true
  pending := []
  replies := []
  keyReads := 0
  out := []

/-- The machine right after reset, under the default parameters. -/
def State.reset : State := State.resetWith Config.default

end Sys2Proof.Machine
end

