-- ==== Sys2Proof/Machine/Flags.lean ====
section
/-! DEFINITION. The flags of the block (10_state.md R42): how each is computed, set and cleared. The block has no
arithmetic condition codes. -/

namespace Sys2Proof.Machine

/-- `slot[i]` (R20). -/
def State.slot (s : State) (i : Fin 3) : Slot := s.slots[i.val]

/-- `slot[i]` rewritten by `f`. -/
def State.modSlot (s : State) (i : Fin 3) (f : Slot → Slot) : State :=
  { s with slots := s.slots.set i.val (f (s.slot i)) i.isLt }

/-- `slot[i].err <- 1` (R22). -/
def State.setErr (s : State) (i : Fin 3) : State := s.modSlot i fun sl => { sl with err := true }

/-- `slot[i].ack <- a` (R28). -/
def State.setAck (s : State) (i : Fin 3) (a : Ack) : State := s.modSlot i fun sl => { sl with ack := a }

/-- `ack` is `TO_BE_SEND` or `SENDING`: the slot may not be cleared (R28). -/
def Ack.outstanding : Ack → Bool
  | .notReady => false
  | .toBeSend => true
  | .sending => true
  | .sent => false

/-- `ack` is `NOT_READY` or `SENT`: `TX_NEXT` looks at the next slot (R182). -/
def Ack.idle : Ack → Bool
  | .notReady => true
  | .toBeSend => false
  | .sending => false
  | .sent => true

/-- `tx_busy <- v` (R39). -/
def State.setBusy (s : State) (v : Bool) : State := { s with txBusy := v }

/-- `dirty(p)`: `ver[p] != sent[p]` (R47, R251). -/
def State.dirty (s : State) (p : Fin 6) : Bool := s.ver[p.val] != s.sent[p.val]

/-- `blink_phase <- blink_phase ^ 1` (R43). -/
def State.togglePhase (s : State) : State := { s with blinkPhase := !s.blinkPhase }

/-- `task[L]` rewritten by `f` (R54). -/
def State.modTask (s : State) (line : Fin 4) (f : BlinkTask → BlinkTask) : State :=
  { s with task := s.task.set line.val (f s.task[line.val]) line.isLt }

/-- `task[L].live <- 0` (R231). -/
def State.killTask (s : State) (line : Fin 4) : State := s.modTask line fun t => { t with live := false }

/-- `ver[p] <- (ver[p] + 1) mod 2^VER_BITS` (R48). -/
def bumpVersion (verBits : Nat) (ver : Vector Nat 6) (p : Nat) : Vector Nat 6 :=
  ver.setIfInBounds p ((ver[p]?.getD 0 + 1) % 2 ^ verBits)

/-- The successor of a ring index (R20). -/
def ringNext (i : Fin 3) : Fin 3 := i + 1

/-- The successor of a page, round robin (R253). -/
def pageNext (p : Fin 6) : Fin 6 := p + 1

end Sys2Proof.Machine
end

