-- ==== Sys2Proof/Machine/Operands.lean ====
section
/-! DEFINITION. Operand forms: the catalog lookups, the status byte, the format byte, line geometry, glyphs, QR bytes and
line content that the operations read (30_encoding.md, 20_memory.md R72, 45_glyph_blitter.md section 1). -/

namespace Sys2Proof.Machine

/-! ### Register-file lists -/

/-- `v[k ..] <- bs`, entries past the end of the file dropped. -/
def overwrite {n : Nat} (v : Vector Byte n) (k : Nat) : List Byte → Vector Byte n
  | [] => v
  | b :: bs => overwrite (v.setIfInBounds k b) (k + 1) bs

/-! ### Catalog (R57, R91, R92) -/

/-- The id of a command. -/
def cmdId (cfg : Config) (c : Cmd) : Byte := cfg.cmdMap.get c.index

/-- The command an id names, if any. -/
def cmdOf (cfg : Config) (id : Byte) : Option Cmd := Cmd.all.find? fun c => cmdId cfg c == id

/-- `REQ_LEN[id]` (R57), 0 for the invalid placeholder 0 (R91). For any other id that `CMD_MAP` gives to no command the
spec gives no length: a free value (DESIGN CHOICE, log 29). -/
def reqLen (cfg : Config) (id : Byte) : Nat := match cmdOf cfg id with
  | some c => c.reqLen
  | none => if id = 0 then 0 else (Config.reqLenUnstated id).val

/-- `RESP_LEN[id]` (R57), 0 for the invalid placeholder 0 (R91). For any other id that `CMD_MAP` gives to no command the
spec gives no length: a free value (DESIGN CHOICE, log 29). -/
def respLen (cfg : Config) (id : Byte) : Nat := match cmdOf cfg id with
  | some c => c.respLen
  | none => if id = 0 then 0 else (Config.respLenUnstated id).val

/-- `v = 0 or v >= CATALOG_SIZE` (R101, R135). -/
def invalidId (cfg : Config) (v : Byte) : Bool := v == 0 || decide (cfg.catalogSize ≤ v.toNat)

/-! ### Command/status byte (R90) -/

/-- `cs = (err ? ERR_MASK : 0) | cmd`. -/
def statusByte (cfg : Config) (err : Bool) (cmd : Byte) : Byte := (if err then cfg.errMask else 0) ||| cmd

/-! ### Validators (R161, R163, R165) -/

/-- `VALIDATE(7, p)` (R163): the type first, then the value against the limits of its type. -/
def validateParam (cfg : Config) (p : Vector Byte 20) : Bool :=
  let kind := p[cfg.buzTypeAt.val]
  let value := p[cfg.buzValueAt.val]
  if kind = cfg.buzFreq then decide (cfg.freqMin ≤ value ∧ value ≤ FREQ_MAX)
  else if kind = cfg.buzDuty then decide (cfg.dutyMin ≤ value ∧ value ≤ cfg.dutyMax)
  else false

/-- `VALIDATE(8, p)` (R165). -/
def validateCtrl (cfg : Config) (p : Vector Byte 20) : Bool :=
  let action := p[cfg.ctrlActionAt.val]
  (action == cfg.actOff || action == cfg.actOn || action == cfg.actBeep) && decide (p[cfg.ctrlCyclesAt.val] ≤ CYCLES_MAX)

/-- `VALIDATE(id, payload)` (R161). For an id to which the rule gives no result the result is a free value (log 7). -/
def validate (cfg : Config) (id : Byte) (p : Vector Byte 20) : Bool :=
  match cmdOf cfg id with
  | some .buzparam => validateParam cfg p
  | some .buzctrl => validateCtrl cfg p
  | some .wrline => true
  | some .setbl => true
  | some .setlang => true
  | some .rdkeys => Config.validateUnstated id p
  | some .clrdsp => Config.validateUnstated id p
  | some .getver => Config.validateUnstated id p
  | none => Config.validateUnstated id p

/-! ### Line geometry (R46, R72) -/

/-- `height(L)`. -/
def lineHeight (layout : Vector LineLayout 4) (line : Fin 4) : Nat := layout[line.val].height.toNat

/-- Rows a line takes with the indent above it. -/
def layoutRows (l : LineLayout) : Nat := l.upperIndent.toNat + l.height.toNat

/-- `row0(L)` (R72). -/
def lineRow0 (layout : Vector LineLayout 4) (line : Fin 4) : Nat :=
  layout[line.val].upperIndent.toNat + ((layout.toList.take line.val).map layoutRows).sum

/-- Legality of a layout (R46): heights at least 1, indents and heights summing to 48. -/
def legalLayout (layout : Vector LineLayout 4) : Bool :=
  layout.toList.all (fun l => decide (1 ≤ l.height.toNat)) && decide ((layout.toList.map layoutRows).sum = FB_ROWS)

/-! ### Format byte (R97, R222) -/

/-- The flag at a bit position of the format byte. -/
def fmtFlag (f : Byte) (pos : Fin 8) : Bool := f.getLsbD pos.val

/-- The format byte with the flag at a bit position set. -/
def fmtWith (f : Byte) (pos : Fin 8) : Byte := f ||| (1 <<< pos.val)

/-- The inversion mask of a line of height `h` (R222). -/
def inversionMask (cfg : Config) (f : Byte) (h : Nat) : Nat := if fmtFlag f cfg.fmtInv then 2 ^ h - 1 else 0

/-! ### Glyphs (R53, R99, R216, R217) -/

/-- The number whose bytes, least significant first, are the `k` bytes of `bitmap` from index `start`. -/
def leColumn (bitmap : Vector Byte GLYPH_MAX_BYTES) (start : Nat) : Nat → Nat
  | 0 => 0
  | k + 1 => (bitmap[start]?.getD 0).toNat + 256 * leColumn bitmap (start + 1) k

/-- The entry of a glyph code. -/
def glyph (cfg : Config) (code : Byte) : GlyphEntry := cfg.glyph.get code.toFin

/-- `col[j]` of a glyph: column-major bytes, little-endian, bit 0 the top row (R99). -/
def glyphCol (cfg : Config) (code : Byte) (j : Nat) : Nat :=
  leColumn (glyph cfg code).bitmap (cfg.glyphBpc * j) cfg.glyphBpc

/-- A code of an icon: greater than 127. -/
def isIcon (code : Byte) : Bool := decide (127 < code.toNat)

/-- `TRIM` (R216): the borders `(l, r)` of the columns drawn. -/
def trimGlyph (cfg : Config) (code : Byte) : Nat × Nat :=
  let g := glyph cfg code
  if isIcon code && g.trimmable then
    match (List.range g.width).find? (fun j => glyphCol cfg code j != 0),
        (List.range g.width).reverse.find? (fun j => glyphCol cfg code j != 0) with
    | some l, some r => (l, r + 1)
    | _, _ => (0, 0)
  else (0, g.width)

/-- `TW` (R217). -/
def trimmedWidth (cfg : Config) (code : Byte) : Nat := (trimGlyph cfg code).2 - (trimGlyph cfg code).1

/-! ### QR bytes (R234, R107) -/

/-- The version drawn: 3 to 7, else 4 (R234). -/
def qrVersion (version : Nat) : Nat := if 3 ≤ version ∧ version ≤ 7 then version else 4

/-- `QR[v][row][col]` (R107); 0 outside the ROM, which no rule reads. -/
def qrByte (cfg : Config) (v row col : Nat) : Byte :=
  match cfg.qr[v - 3]? with
  | none => 0
  | some bitmap => match bitmap[row]? with
    | none => 0
    | some page => page[col]?.getD 0

/-! ### Line content (R98, R232) -/

/-- `new[0 .. n-1] <- text ; new[n .. 19] <- 0x00` (R232). -/
def padLine (text : List Byte) : Vector Byte 20 := overwrite (Vector.replicate 20 0) 0 text

/-- The text of a line: its glyph codes before the first `0x00` (R225). -/
def lineText (content : Vector Byte 20) : List Byte :=
  ((content.toList.drop 2).take 17).takeWhile fun c => c != 0

end Sys2Proof.Machine
end

