-- ==== Sys2Proof/Machine/Ops.lean ====
section
/-! DEFINITION. The shared operations over memory and registers: the framebuffer, the slot ring, the response machine, the
error path (the block's only exception, 60_exceptions.md R275 and R282; there is no return from it, R283), the rendering
operations, the dispatcher port and the request machine. Each is written once; the meanings of the instructions call it. -/

namespace Sys2Proof.Machine

/-! ### Output -/

/-- `emit E` (00_scope.md section 7). -/
def State.emit (s : State) (o : Output) : State := { s with out := s.out ++ [o] }

/-- Ends an operation with a result for its caller (`return v`). -/
def State.ret (s : State) (v : Ret) : State := s.emit (.ret v)

/-! ### Framebuffer memory (R47, R60, R66) -/

/-- The key of `(p, c)`. -/
def fbAddr (p c : Nat) : Nat := N_COLS * p + c

/-- What an address that is not listed reads as: the reset value of `fb` (R47). -/
def Memory.unlisted : Byte := 0

/-- The byte at a key. -/
def Memory.readAt : Memory → Nat → Byte
  | [], _ => Memory.unlisted
  | (a, v) :: rest, k => if k = a then v else Memory.readAt rest k

/-- The memory with the byte at a key set, in canonical form. -/
def Memory.writeAt : Memory → Nat → Byte → Memory
  | [], k, x => if x = Memory.unlisted then [] else [(k, x)]
  | (a, v) :: rest, k, x =>
    if k < a then (if x = Memory.unlisted then (a, v) :: rest else (k, x) :: (a, v) :: rest)
    else if k = a then (if x = Memory.unlisted then rest else (k, x) :: rest)
    else (a, v) :: Memory.writeAt rest k x

/-- Addresses strictly rising from `lo`, all below 768, and no entry equal to what an unlisted address reads as. -/
def Memory.wfFrom : Nat → Memory → Bool
  | _, [] => true
  | lo, (a, v) :: rest => decide (lo ≤ a) && decide (a < N_COLS * N_PAGES) && v != Memory.unlisted && Memory.wfFrom (a + 1) rest

/-- The canonical form of the framebuffer. -/
def Memory.wf (m : Memory) : Bool := Memory.wfFrom 0 m

/-- `MemRead((p, c), 8)`. -/
def memRead (m : Memory) (p c : Nat) : Byte := m.readAt (fbAddr p c)

/-- `MemWrite((p, c), 8, v)`. -/
def memWrite (m : Memory) (p c : Nat) (v : Byte) : Memory := m.writeAt (fbAddr p c) v

/-- Pixel `(g, c)`: bit `g mod 8` of byte `fb[g div 8][c]` (R62). -/
def pixel (m : Memory) (g c : Nat) : Bool := (memRead m (g / 8) c).getLsbD (g % 8)

/-! ### The canvas: the part of the state that drawing changes -/

/-- The framebuffer and its version counters. -/
structure Canvas where
  fb : Memory
  ver : Vector Nat 6
deriving DecidableEq, Repr

/-- The canvas of a state. -/
def State.canvas (s : State) : Canvas := { fb := s.fb, ver := s.ver }

/-- The state with another canvas. -/
def State.withCanvas (s : State) (cv : Canvas) : State := { s with fb := cv.fb, ver := cv.ver }

/-- `MemWrite` with the version rule of its page (R76, R204). -/
def Canvas.put (verBits : Nat) (cv : Canvas) (p c : Nat) (v : Byte) : Canvas :=
  { fb := memWrite cv.fb p c v, ver := bumpVersion verBits cv.ver p }

/-! ### WRITE_BITS (R201, R203, R204) -/

/-- The field mask of `n` bits at offset `o` of a page byte. -/
def fieldMask (n o : Nat) : Byte := BitVec.ofNat 8 ((2 ^ n - 1) <<< o)

/-- The read-modify-write of one byte (R70). -/
def mergeField (old mask : Byte) (bits : Nat) : Byte := (old &&& ~~~mask) ||| (BitVec.ofNat 8 bits &&& mask)

/-- The loop of R201: global offset `g`, `rem` bits of `v` left. Each turn ends the write or reaches the next page, so
six turns reach row 48. -/
def writeBitsLoop (verBits column : Nat) : Nat → Nat → Nat → Nat → Canvas → Canvas
  | 0, _, _, _, cv => cv
  | fuel + 1, v, g, rem, cv =>
    if 0 < rem ∧ g < FB_ROWS then
      let p := g / 8
      let o := g % 8
      let n := min rem (8 - o)
      let b := mergeField (memRead cv.fb p column) (fieldMask n o) (v <<< o)
      writeBitsLoop verBits column fuel (v >>> n) (g + n) (rem - n) (cv.put verBits p column b)
    else cv

/-- `WRITE_BITS(value, start_bit, width, column)` (R201). -/
def writeBits (verBits value startBit width column : Nat) (cv : Canvas) : Canvas :=
  if N_COLS ≤ column then cv else writeBitsLoop verBits column N_PAGES value startBit width cv

/-! ### STUFF_CHAR and BLANK_COL (R218, R219) -/

/-- The render context of a line. -/
structure LineCtx where
  row0 : Nat
  h : Nat
  inv : Nat
  hide : Bool
deriving DecidableEq, Repr

/-- `BLANK_COL` (R219). -/
def blankCol (cfg : Config) (x : LineCtx) (col : Nat) (cv : Canvas) : Canvas :=
  writeBits cfg.verBits x.inv x.row0 x.h col cv

/-- `BLANK_COL` on `n` columns from `col`. -/
def blankCols (cfg : Config) (x : LineCtx) : Nat → Nat → Canvas → Canvas
  | 0, _, cv => cv
  | n + 1, col, cv => blankCols cfg x n (col + 1) (blankCol cfg x col cv)

/-- The bits of a glyph column as drawn, before inversion (R218). -/
def glyphBits (cfg : Config) (x : LineCtx) (code : Byte) (j : Nat) : Nat :=
  if (glyph cfg code).isBlinking && x.hide then 0 else glyphCol cfg code j &&& (2 ^ x.h - 1)

/-- `n` glyph columns from column `j` of the glyph, drawn from column `col`. -/
def blitCols (cfg : Config) (x : LineCtx) (code : Byte) : Nat → Nat → Nat → Canvas → Canvas
  | 0, _, _, cv => cv
  | n + 1, j, col, cv =>
    blitCols cfg x code n (j + 1) (col + 1)
      (writeBits cfg.verBits (glyphBits cfg x code j ^^^ x.inv) x.row0 x.h col cv)

/-- What `STUFF_CHAR` draws (R218): nothing where the glyph does not fit before `colHi`. Its result is `trimmedWidth`. -/
def stuffChar (cfg : Config) (x : LineCtx) (code : Byte) (col colHi : Nat) (cv : Canvas) : Canvas :=
  if colHi < col + trimmedWidth cfg code then cv
  else blitCols cfg x code (trimmedWidth cfg code) (trimGlyph cfg code).1 col cv

/-! ### RENDER_LINE (R221 to R231) -/

/-- The glyph a blink task would follow: code, column, right boundary (R227). -/
structure BlinkRec where
  code : Byte
  col : Nat
  colHi : Nat
deriving DecidableEq, Repr

/-- `rec` after a glyph is drawn (R227): a blinking glyph of some width replaces what was recorded. -/
def noteBlink (cfg : Config) (code : Byte) (col colHi : Nat) (r : Option BlinkRec) : Option BlinkRec :=
  if (glyph cfg code).isBlinking && decide (0 < trimmedWidth cfg code) then some { code, col, colHi } else r

/-- `W` and the glyphs that fit: the longest such beginning of the text (R225). -/
def fitText (cfg : Config) (avail : Nat) : List Byte → Nat → Nat × List Byte
  | [], w => (w, [])
  | t :: ts, w =>
    if w + 1 + trimmedWidth cfg t ≤ avail then
      let r := fitText cfg avail ts (w + 1 + trimmedWidth cfg t)
      (r.1, t :: r.2)
    else (w, [])

/-- What drawing has got to: the canvas, the next column, what is recorded. -/
structure Drawn where
  cv : Canvas
  col : Nat
  blink : Option BlinkRec
deriving DecidableEq, Repr

/-- The text, each glyph after its blank column (R226). -/
def drawText (cfg : Config) (x : LineCtx) (colHi : Nat) : List Byte → Drawn → Drawn
  | [], d => d
  | t :: ts, d =>
    drawText cfg x colHi ts
      { cv := stuffChar cfg x t (d.col + 1) colHi (blankCol cfg x d.col d.cv)
        col := d.col + 1 + trimmedWidth cfg t
        blink := noteBlink cfg t (d.col + 1) colHi d.blink }

/-- The right icon and its gap (R224): the canvas, `col_hi` and what is recorded. -/
def drawRight (cfg : Config) (x : LineCtx) (code : Byte) (d : Drawn) : Drawn :=
  if isIcon code then
    let rc := N_COLS - trimmedWidth cfg code
    { cv := blankCols cfg x GAP (rc - GAP) (stuffChar cfg x code rc N_COLS d.cv)
      col := rc - GAP
      blink := noteBlink cfg code rc N_COLS d.blink }
  else { d with col := N_COLS }

/-- The start column of the text (R225). -/
def startCol (cfg : Config) (f : Byte) (colLo colHi w : Nat) : Nat :=
  if fmtFlag f cfg.fmtAl then colLo
  else if fmtFlag f cfg.fmtAr then colHi - w
  else colLo + (colHi - colLo - w) / 2

/-- The drawing of R228: left icon, right icon and gap, pre-fill, text, padding. -/
def drawLine (cfg : Config) (x : LineCtx) (content : Vector Byte 20) (cv : Canvas) : Canvas × Option BlinkRec :=
  let left : Drawn :=
    { cv := stuffChar cfg x content[0] 0 N_COLS cv
      col := trimmedWidth cfg content[0]
      blink := noteBlink cfg content[0] 0 N_COLS none }
  let colLo := left.col
  let right := drawRight cfg x content[19] left
  let colHi := right.col
  let fit := fitText cfg (colHi - colLo) (lineText content) 0
  let start := startCol cfg content[1] colLo colHi fit.1
  let text := drawText cfg x colHi fit.2
    { cv := blankCols cfg x (start - colLo) colLo right.cv, col := start, blink := right.blink }
  (blankCols cfg x (colHi - text.col) text.col text.cv, text.blink)

/-- The context of a line (R222). -/
def State.lineCtx (s : State) (line : Fin 4) (f : Byte) : LineCtx :=
  { row0 := lineRow0 s.layout line
    h := lineHeight s.layout line
    inv := inversionMask s.cfg f (lineHeight s.layout line)
    hide := s.blinkPhase }

/-- `sched_armed <- 1 ; emit SCHED_ARM` (R44, R229). -/
def State.armScheduler (s : State) : State := { s with schedArmed := true }.emit .schedArm

/-- The task that snapshots a context and a recorded glyph (R54, R229). -/
def blinkTaskOf (x : LineCtx) (r : BlinkRec) : BlinkTask where
  live := true
  code := r.code
  col := BitVec.ofNat 8 r.col
  row0 := BitVec.ofNat 6 x.row0
  h := BitVec.ofNat 6 x.h
  inv := BitVec.ofNat 48 x.inv
  colHi := BitVec.ofNat 8 r.colHi
  hide := x.hide

/-- The blink-task part of R228 (R229 to R231). `INTERNAL_KEEPS_TASK` false is the other reading of D25. -/
def State.updateTask (s : State) (line : Fin 4) (x : LineCtx) (isInternal : Bool) : Option BlinkRec → State
  | none => s.killTask line
  | some r =>
    if isInternal then (if s.cfg.internalKeepsTask then s else s.killTask line)
    else (s.modTask line fun _ => blinkTaskOf x r).armScheduler

/-- `RENDER_LINE(L, content, is_internal)` for a line of its domain (R228). -/
def State.renderLine (s : State) (line : Fin 4) (content : Vector Byte 20) (isInternal : Bool) : State :=
  let x := s.lineCtx line content[1]
  let d := drawLine s.cfg x content s.canvas
  (s.withCanvas d.1).updateTask line x isInternal d.2

/-! ### PUT_LINE (R232, R233) -/

/-- `linebuf[L] <- new ; cache_valid[L] <- 1`. -/
def State.cacheLine (s : State) (line : Fin 4) (content : Vector Byte 20) : State :=
  { s with
    linebuf := s.linebuf.set line.val content line.isLt
    cacheValid := s.cacheValid.set line.val true line.isLt }

/-- `PUT_LINE` on a line of its domain: a cache hit changes nothing (R233). -/
def State.putLineAt (s : State) (line : Fin 4) (content : Vector Byte 20) : State :=
  if s.cacheValid[line.val] = true ∧ content = s.linebuf[line.val] then s
  else (s.cacheLine line content).renderLine line content false

/-- `PUT_LINE(text, n, L)` with `n` the length of `text`: the state and the result (R232). -/
def State.putLine (s : State) (text : List Byte) (line : Nat) : State × Bool :=
  if h : line < N_LINES ∧ text.length ≤ LINE_BUDGET then (s.putLineAt ⟨line, h.1⟩ (padLine text), true) else (s, false)

/-! ### PUT_QR and FB_CLEAR (R234 to R238) -/

/-- `n` bytes of row `row` from column `col` of the bitmap on. -/
def qrCols (cfg : Config) (v offset : Nat) (contrast : Byte) (row : Nat) : Nat → Nat → Memory → Memory
  | 0, _, m => m
  | n + 1, col, m =>
    qrCols cfg v offset contrast row n (col + 1) (memWrite m row (offset + col) (qrByte cfg v row col ^^^ contrast))

/-- `n` rows from `row` on, each page's version raised once. -/
def qrRows (cfg : Config) (v offset : Nat) (contrast : Byte) : Nat → Nat → Canvas → Canvas
  | 0, _, cv => cv
  | n + 1, row, cv =>
    qrRows cfg v offset contrast n (row + 1)
      { fb := qrCols cfg v offset contrast row QR_W 0 cv.fb, ver := bumpVersion cfg.verBits cv.ver row }

/-- `PUT_QR(version, offset, contrast)`: the state and the result (R234 to R236). -/
def State.putQr (s : State) (version offset : Nat) (contrast : Byte) : State × Bool :=
  if N_COLS < offset + QR_W then (s, false)
  else (s.withCanvas (qrRows s.cfg (qrVersion version) offset contrast N_PAGES 0 s.canvas), true)

/-- `n` columns of page `p` from `col` on set to 0. -/
def clearCols (p : Nat) : Nat → Nat → Memory → Memory
  | 0, _, m => m
  | n + 1, col, m => clearCols p n (col + 1) (memWrite m p col 0)

/-- `n` pages from `p` on cleared, each page's version raised once. -/
def clearPages (verBits : Nat) : Nat → Nat → Canvas → Canvas
  | 0, _, cv => cv
  | n + 1, p, cv =>
    clearPages verBits n (p + 1) { fb := clearCols p N_COLS 0 cv.fb, ver := bumpVersion verBits cv.ver p }

/-- `FB_CLEAR()` (R238). -/
def State.fbClear (s : State) : State :=
  { s.withCanvas (clearPages s.cfg.verBits N_PAGES 0 s.canvas) with
    linebuf := Vector.replicate 4 (Vector.replicate 20 0)
    cacheValid := Vector.replicate 4 false
    task := s.task.map fun t => { t with live := false } }

/-! ### BLINK_TICK (R240) -/

/-- The context a task snapshotted, with its own `hide`. -/
def taskCtx (t : BlinkTask) : LineCtx := { row0 := t.row0.toNat, h := t.h.toNat, inv := t.inv.toNat, hide := t.hide }

/-- The glyph of a live task drawn from its snapshot. -/
def drawTask (cfg : Config) (t : BlinkTask) (cv : Canvas) : Canvas :=
  stuffChar cfg (taskCtx t) t.code t.col.toNat t.colHi.toNat cv

/-- One line of the tick: nothing without a live task. -/
def State.tickLine (s : State) (line : Fin 4) : State :=
  if s.task[line.val].live then
    let t : BlinkTask := { s.task[line.val] with hide := !s.task[line.val].hide }
    (s.modTask line fun _ => t).withCanvas (drawTask s.cfg t s.canvas)
  else s

/-- `BLINK_TICK()`: the phase, then lines 0 to 3 (R240). -/
def State.blinkTick (s : State) : State := (((s.togglePhase.tickLine 0).tickLine 1).tickLine 2).tickLine 3

/-! ### Slots (R29) -/

/-- `CLEAR_SLOT(i)` (R29). -/
def State.clearSlot (s : State) (i : Fin 3) : State := s.modSlot i fun _ => Slot.cleared s.cfg.crcInit

/-! ### The response machine (R180 to R190) -/

/-- The bytes `TX_FILL` stores (R185). -/
def responseBytes (cfg : Config) (sl : Slot) : List Byte :=
  let payload := sl.resp.toList.take (respLen cfg sl.cmd)
  let cs := statusByte cfg sl.err sl.cmd
  frameTail sl.pn cs payload (crc16 cfg.crcInit (frameBody sl.pn cs payload))

/-- `TX_FILL(s)` (R185). -/
def State.txFill (s : State) (i : Fin 3) : State :=
  { s with
    txBuf := overwrite s.txBuf 0 (responseBytes s.cfg (s.slot i))
    txLen := BitVec.ofNat 4 (10 + 2 * respLen s.cfg (s.slot i).cmd) }

/-- `TX_NEXT` step 1 (R182): the state with the slot to send selected, or `none` for nothing to send. -/
def State.txSelect (s : State) : Option State :=
  if (s.slot s.txIdx).ack.idle then
    if (s.slot (ringNext s.txIdx)).ack = .toBeSend then some { s with txIdx := ringNext s.txIdx, txCursor := 0 } else none
  else some s

/-- `TX_NEXT` steps 3 and 4 (R184, R187): format at cursor 1, then stream one byte. -/
def State.txStream (s : State) : State × Option Byte :=
  let s1 := if s.txCursor = 1 then s.txFill s.txIdx else s
  let j := s1.txCursor - 1
  let s2 := { s1 with txCursor := s1.txCursor + 1 }
  (if j = s1.txLen - 1 then s2.setAck s2.txIdx .sent else s2, some (s1.txBuf[j.toNat]?.getD 0))

/-- `TX_NEXT()` (R190). -/
def State.txNext (s : State) : State × Option Byte :=
  match s.txSelect with
  | none => (s, none)
  | some s1 =>
    if (s1.slot s1.txIdx).ack = .toBeSend then ({ s1.setAck s1.txIdx .sending with txCursor := 1 }, some STX)
    else s1.txStream

/-- `emit TX_PUT(b); tx_busy <- 1` (R189). -/
def State.txPut (s : State) (b : Byte) : State := (s.emit (.txPut b)).setBusy true

/-- `TX_PUMP()` (R189). -/
def State.txPump (s : State) : State :=
  match s.txNext with
  | (s1, some b) => s1.txPut b
  | (s1, none) => s1.setBusy false

/-- `ARM(i)` (R181). -/
def State.arm (s : State) (i : Fin 3) : State :=
  let s1 := s.setAck i .toBeSend
  if s1.txBusy then s1 else s1.txPump

/-- `TX_DONE` (R188). -/
def State.txDone (s : State) : State := (s.setBusy false).txPump

/-! ### The error path (R275): what the block has in the place of taking an exception (R282) -/

/-- `ERROR_PATH()`: set `ERR` in the current slot, arm its response, back to `IDLE` (R275). No class is recorded (R271). -/
def State.errorPath (s : State) : State :=
  { (s.setErr s.rxIdx).arm s.rxIdx with rxState := .vf, delim := false, nibCnt := 0 }

/-! ### The dispatcher port (R170, R171) -/

/-- One rendering operation a dispatcher invokes; its result goes to the dispatcher, not to the block. -/
def State.runCall (s : State) : RenderCall → State
  | .putLine text line => (s.putLine text line).1
  | .renderLine line content isInternal => s.renderLine line content isInternal
  | .putQr version offset contrast => (s.putQr version offset contrast).1
  | .fbClear => s.fbClear

/-- Byte `k` of a dispatched payload; one that is not there is a free value (log 18). -/
def payloadByte (id : Byte) (payload : List Byte) (k : Nat) : Byte := payload[k]?.getD (Config.missingByte id k)

/-- The reference binding (R171): the state and the response bytes. R171 gives it for the eight commands; any other id is
answered with `RESP_LEN[id]` free bytes and touches no state (DESIGN CHOICE, log 29). -/
def State.referenceDispatch (s : State) (id : Byte) (payload : List Byte) : State × List Byte :=
  match cmdOf s.cfg id with
  | some .rdkeys => ({ s with keyReads := s.keyReads + 1 }, [Config.keyByte s.keyReads])
  | some .wrline =>
    let text := (List.range LINE_BUDGET).map fun k => payloadByte id payload (k + 1)
    ((s.putLine text (payloadByte id payload 0).toNat).1, [])
  | some .setbl => (s, [])
  | some .clrdsp => (s.fbClear, [])
  | some .setlang => (s, [])
  | some .getver => (s, [s.cfg.version.extractLsb' 8 8, s.cfg.version.extractLsb' 0 8])
  | some .buzparam => (s, [payloadByte id payload 0, payloadByte id payload 1])
  | some .buzctrl => (s, [])
  | none => (s, (List.range (respLen s.cfg id)).map (Config.replyUnstated id))

/-- `DISPATCH(id, payload)` (R170): the output event, then the dispatcher's answer, which is the environment's next reply
if it gave one and the reference binding otherwise (log 8). -/
def State.dispatch (s : State) (id : Byte) (payload : List Byte) : State × List Byte :=
  let s1 := s.emit (.dispatch id payload)
  match s1.replies with
  | r :: rest => (r.calls.foldl State.runCall { s1 with replies := rest }, r.resp.toList.take (respLen s.cfg id))
  | [] => s1.referenceDispatch id payload

/-! ### The request machine (R125 to R140) -/

/-- The slot current for RX. -/
def State.rxSlot (s : State) : Slot := s.slot s.rxIdx

/-- The target slot of an `STX` (R127). -/
def State.rxTarget (s : State) : Fin 3 := if s.rxSlot.ack = .notReady then s.rxIdx else ringNext s.rxIdx

/-- Accepted `STX`, or the drop of a full ring (R127). -/
def State.rxStx (s : State) : State :=
  if (s.slot s.rxTarget).ack.outstanding then { s with delim := false }
  else { s.clearSlot s.rxTarget with rxIdx := s.rxTarget, delim := true, rxState := .vpn, nibCnt := 0, acc := 0 }

/-- Noise (R128). -/
def State.rxNoise (s : State) : State := { s with delim := false }

/-- The payload handed to the dispatcher: the first `REQ_LEN[cmd]` bytes (R129). -/
def State.rxPayload (s : State) : List Byte := s.rxSlot.payload.toList.take (reqLen s.cfg s.rxSlot.cmd)

/-- `slot[s].resp <- DISPATCH(...)` for the current slot (R129). -/
def State.rxDispatch (s : State) : State :=
  let r := s.dispatch s.rxSlot.cmd s.rxPayload
  r.1.modSlot s.rxIdx fun sl => { sl with resp := overwrite sl.resp 0 r.2 }

/-- Expected `ETX`: dispatch and arm (R129). -/
def State.rxEtx (s : State) : State :=
  let s1 := if s.rxSlot.err then s else s.rxDispatch
  { s1.arm s.rxIdx with delim := false }

/-- The states whose bytes enter the running CRC (R131). -/
def RxState.checksummed : RxState → Bool
  | .vf => false
  | .vpn => true
  | .vcmd => true
  | .vpay => true
  | .vcrc => false

/-- CRC accumulation of a received byte (R131). -/
def State.rxCrc (s : State) (b : Byte) : State :=
  if s.rxState.checksummed then s.modSlot s.rxIdx fun sl => { sl with crcCalc := crc16Update sl.crcCalc b } else s

/-- The common front end of the field states (R126): a nibble, or the error path taken. -/
def State.rxFront (s : State) (b : Byte) : State × Option Nibble :=
  if isStx b || isEtx b then (s.errorPath, none)
  else match hex2nib s.cfg.hexAcceptLower b with
    | some n => (s.rxCrc b, some n)
    | none => ((s.rxCrc b).errorPath, none)

/-- Two-nibble accumulation (R132): the byte where it is complete. -/
def State.rxNibble (s : State) (n : Nibble) : State × Option Byte :=
  if s.nibCnt = 0 then ({ s with acc := n.zeroExtend 8 <<< 4, nibCnt := 1 }, none)
  else ({ s with nibCnt := 0 }, some (s.acc ||| n.zeroExtend 8))

/-- To the CRC field, with `crc_rx` cleared (R137, R138). -/
def State.toCrcField (s : State) : State :=
  { s.modSlot s.rxIdx fun sl => { sl with crcRx := 0 } with rxState := .vcrc, nibCnt := 0 }

/-- Choice of the field after the command id (R137). -/
def State.rxFieldChoice (s : State) : State :=
  if reqLen s.cfg s.rxSlot.cmd = 0 then s.toCrcField else { s with rxState := .vpay, nibCnt := 0, payCnt := 0 }

/-- `VPN` (R133). -/
def State.rxVpn (s : State) (n : Nibble) : State :=
  match s.rxNibble n with
  | (s1, none) => s1
  | (s1, some v) => { s1.modSlot s1.rxIdx fun sl => { sl with pn := v } with rxState := .vcmd }

/-- `VCMD` (R135). -/
def State.rxVcmd (s : State) (n : Nibble) : State :=
  match s.rxNibble n with
  | (s1, none) => s1
  | (s1, some v) =>
    if invalidId s1.cfg v then (s1.modSlot s1.rxIdx fun sl => { sl with cmd := 0 }).errorPath
    else (s1.modSlot s1.rxIdx fun sl => { sl with cmd := v }).rxFieldChoice

/-- `VPAY` (R138). -/
def State.rxVpay (s : State) (n : Nibble) : State :=
  match s.rxNibble n with
  | (s1, none) => s1
  | (s1, some v) =>
    let s2 := { s1.modSlot s1.rxIdx fun sl => { sl with payload := sl.payload.setIfInBounds s1.payCnt.toNat v } with
      payCnt := s1.payCnt + 1 }
    if s2.payCnt.toNat = reqLen s2.cfg s2.rxSlot.cmd then
      if validate s2.cfg s2.rxSlot.cmd s2.rxSlot.payload then s2.toCrcField else s2.errorPath
    else s2

/-- `VCRC` (R140). -/
def State.rxVcrc (s : State) (n : Nibble) : State :=
  let s1 := { s.modSlot s.rxIdx fun sl => { sl with crcRx := (sl.crcRx <<< 4) ||| n.zeroExtend 16 } with
    nibCnt := s.nibCnt + 1 }
  if s1.nibCnt = 0 then
    if s1.rxSlot.crcRx = s1.rxSlot.crcCalc then { s1 with rxState := .vf } else s1.errorPath
  else s1

/-- A field state's rule after the front end, nothing where the front end took the error path. -/
def State.rxField (s : State) (b : Byte) (rule : State → Nibble → State) : State :=
  match s.rxFront b with
  | (s1, none) => s1
  | (s1, some n) => rule s1 n

/-- `RX_BYTE(b)` (R125). -/
def State.rxByte (s : State) (b : Byte) : State :=
  match s.rxState with
  | .vf => if isStx b && !s.delim then s.rxStx else if isEtx b && s.delim then s.rxEtx else s.rxNoise
  | .vpn => s.rxField b State.rxVpn
  | .vcmd => s.rxField b State.rxVcmd
  | .vpay => s.rxField b State.rxVpay
  | .vcrc => s.rxField b State.rxVcrc

/-- The bytes of `bs` received one after the other. -/
def State.rxBytes (s : State) (bs : List Byte) : State := bs.foldl State.rxByte s

/-! ### DRAIN_STEP (R253 to R257) -/

/-- The 9-bit data word `{DATA_SELECT, b}` (R68). -/
def dataWord (cfg : Config) (b : Byte) : BitVec 9 := BitVec.ofBool cfg.dataSelect ++ b

/-- Streaming of one column and completion (R255, R256): the state and the result. -/
def State.drainColumn (s : State) : State × Bool :=
  let s1 := s.emit (.ctrlData (dataWord s.cfg (memRead s.fb s.drainPage.val s.drainCol.val)))
  if h : s.drainCol.val + 1 < N_COLS then ({ s1 with drainCol := ⟨s.drainCol.val + 1, h⟩ }, false)
  else
    ({ s1.emit (.ctrlCmd .displayOn) with
        sent := s1.sent.set s.drainPage.val s1.ver[s.drainPage.val] s.drainPage.isLt
        drainCol := 0 }, true)

/-- `DRAIN_STEP()` (R257): the state and the result. -/
def State.drainStep (s : State) : State × Bool :=
  if s.drainCol = 0 then
    let s1 := { s with drainPage := pageNext s.drainPage }
    if s1.dirty s1.drainPage then
      ((s1.emit (.ctrlCmd (.pageSelect s1.drainPage))).emit (.ctrlCmd (.columnAddress 0))).drainColumn
    else (s1, false)
  else s.drainColumn

/-! ### RESET (R300) and the boot-time layout write (R311) -/

/-- `RESET()`: every register at its reset value; the ROMs, the parameters and the environment's side of the ports are not
registers and stay. It installs `LINE_LAYOUT` as the parameters have it: of the two readings U5 allows of an illegal one, to
refuse it or to admit it, the model admits it (DESIGN CHOICE, log 30). -/
def State.doReset (s : State) : State :=
  { State.resetWith s.cfg with pending := s.pending, replies := s.replies, keyReads := s.keyReads, out := s.out }

/-- The environment's write of `layout` (R311): legal only before the first event after `RESET`. -/
def State.writeLayout (s : State) (l : Vector LineLayout 4) : Host.Outcome State Fault Refusal :=
  if s.fresh then
    if legalLayout l then .next { s with layout := l } else .refused .illegalLayout
  else .refused .layoutAfterBoot

end Sys2Proof.Machine
end

