-- ==== Sys2Proof/Machine/CodecUnit.lean ====
section
/-! DEFINITION. The CRC unit and the nibble codec as operations (40_crc_and_nibble_codec.md): each returns its result and touches no register. -/

namespace Sys2Proof.Machine

/-- `CRC16_UPDATE` (R111). -/
def execCrc16Update (crc : Half) (b : Byte) (s : State) : Host.Outcome State Fault Refusal :=
  .next (s.ret (.half (crc16Update crc b)))

/-- `CRC16` (R112). -/
def execCrc16 (bytes : List Byte) (s : State) : Host.Outcome State Fault Refusal :=
  .next (s.ret (.half (crc16 s.cfg.crcInit bytes)))

/-- `HEX2NIB` (R116): `(ok, n)`, `(0, 0)` for a byte that is no digit. -/
def execHex2nib (b : Byte) (s : State) : Host.Outcome State Fault Refusal :=
  .next (s.ret (.okNib (hex2nib s.cfg.hexAcceptLower b).isSome ((hex2nib s.cfg.hexAcceptLower b).getD 0)))

/-- `NIB2HEX` (R117). -/
def execNib2hex (n : Nibble) (s : State) : Host.Outcome State Fault Refusal := .next (s.ret (.byte (nib2hex n)))

/-- `HEX2` (R119). -/
def execHex2 (v : Byte) (s : State) : Host.Outcome State Fault Refusal := .next (s.ret (.bytes (hex2 v)))

/-- `HEX4` (R120). -/
def execHex4 (v : Half) (s : State) : Host.Outcome State Fault Refusal := .next (s.ret (.bytes (hex4 v)))

/-- `IS_STX` (R121). -/
def execIsStx (b : Byte) (s : State) : Host.Outcome State Fault Refusal := .next (s.ret (.flag (isStx b)))

/-- `IS_ETX` (R121). -/
def execIsEtx (b : Byte) (s : State) : Host.Outcome State Fault Refusal := .next (s.ret (.flag (isEtx b)))

end Sys2Proof.Machine
end

