-- ==== Sys2Proof/Machine/Drain.lean ====
section
/-! DEFINITION. The controller primitives and the drain sequencer (46_drain_sequencer.md). -/

namespace Sys2Proof.Machine

/-- `CTRL_DATA` (R100): one data word to the controller. -/
def execCtrlData (pixels : Byte) (s : State) : Host.Outcome State Fault Refusal :=
  .next (s.emit (.ctrlData (dataWord s.cfg pixels)))

/-- `PAGE_SELECT(p)` (R252). -/
def execPageSelect (p : Fin 6) (s : State) : Host.Outcome State Fault Refusal :=
  .next (s.emit (.ctrlCmd (.pageSelect p)))

/-- `COLUMN_ADDRESS(c)` (R252). -/
def execColumnAddress (c : Byte) (s : State) : Host.Outcome State Fault Refusal :=
  .next (s.emit (.ctrlCmd (.columnAddress c)))

/-- `DISPLAY_ON` (R252). -/
def execDisplayOn (s : State) : Host.Outcome State Fault Refusal := .next (s.emit (.ctrlCmd .displayOn))

/-- `DRAIN_STEP` (R257). -/
def execDrainStep (s : State) : Host.Outcome State Fault Refusal :=
  .next (s.drainStep.1.ret (.flag s.drainStep.2))

end Sys2Proof.Machine
end

