-- ==== Sys2Proof/Machine/Events.lean ====
section
/-! DEFINITION. The input events and the output events (60_exceptions.md R280, 00_scope.md section 5). -/

namespace Sys2Proof.Machine

/-- `RESET` (R300). -/
def execReset (s : State) : Host.Outcome State Fault Refusal := .next s.doReset

/-- `RX_BYTE(b)` (R125). -/
def execRxByte (b : Byte) (s : State) : Host.Outcome State Fault Refusal := .next (s.rxByte b)

/-- `TX_DONE` (R188). -/
def execTxDone (s : State) : Host.Outcome State Fault Refusal := .next s.txDone

/-- `TICK` (R240). -/
def execTick (s : State) : Host.Outcome State Fault Refusal := .next s.blinkTick

/-- `TX_PUT(b)`: the byte is handed to the transport and is in flight (R14, R39, R189). -/
def execTxPut (b : Byte) (s : State) : Host.Outcome State Fault Refusal := .next (s.txPut b)

/-- `DISPATCH(id, payload)` (R170): its answer goes to the caller. -/
def execDispatch (id : Byte) (payload : List Byte) (s : State) : Host.Outcome State Fault Refusal :=
  .next ((s.dispatch id payload).1.ret (.bytes (s.dispatch id payload).2))

/-- `SCHED_ARM` (R44, R229). -/
def execSchedArm (s : State) : Host.Outcome State Fault Refusal := .next s.armScheduler

end Sys2Proof.Machine
end

