-- ==== Sys2Proof/Machine/Rendering.lean ====
section
/-! DEFINITION. The format-byte rows, `WRITE_BITS`, the glyph blitter, the line and QR operations (30_encoding.md R97, 44, 45). -/

namespace Sys2Proof.Machine

/-- A line given to `PUT_LINE` with the flag at `pos` set in its format byte (R97, R98, R232; log 2); a line of 4 or more
is rejected there. -/
def State.putFormatted (s : State) (pos : Fin 8) (f line icon : Byte) (codes : Vector Byte 17) : State :=
  let r := s.putLine (icon :: fmtWith f pos :: codes.toList) line.toNat
  r.1.ret (.flag r.2)

/-- `FMT_INV` (R97): the line is inverted. -/
def execFmtInv (f line icon : Byte) (codes : Vector Byte 17) (s : State) :
    Host.Outcome State Fault Refusal :=
  .next (s.putFormatted s.cfg.fmtInv f line icon codes)

/-- `FMT_AL` (R97): the line is aligned left, whatever `AR`. -/
def execFmtAl (f line icon : Byte) (codes : Vector Byte 17) (s : State) :
    Host.Outcome State Fault Refusal :=
  .next (s.putFormatted s.cfg.fmtAl f line icon codes)

/-- `FMT_AR` (R97): the line is aligned right unless `AL` is set. -/
def execFmtAr (f line icon : Byte) (codes : Vector Byte 17) (s : State) :
    Host.Outcome State Fault Refusal :=
  .next (s.putFormatted s.cfg.fmtAr f line icon codes)

/-- `FMT_BLINK` (R97): decoded, no effect on rendering. -/
def execFmtBlink (f line icon : Byte) (codes : Vector Byte 17) (s : State) :
    Host.Outcome State Fault Refusal :=
  .next (s.putFormatted s.cfg.fmtBlink f line icon codes)

/-- `WRITE_BITS` (R201). -/
def execWriteBits (value startBit width column : Nat) (s : State) : Host.Outcome State Fault Refusal :=
  .next (s.withCanvas (writeBits s.cfg.verBits value startBit width column s.canvas))

/-- `TRIM` (R216). -/
def execTrim (code : Byte) (s : State) : Host.Outcome State Fault Refusal :=
  .next (s.ret (.pair (trimGlyph s.cfg code).1 (trimGlyph s.cfg code).2))

/-- `TW` (R217). -/
def execTw (code : Byte) (s : State) : Host.Outcome State Fault Refusal := .next (s.ret (.num (trimmedWidth s.cfg code)))

/-- `STUFF_CHAR` (R218): its result is the trimmed width, drawn or not. -/
def execStuffChar (row0 h inv : Nat) (hide : Bool) (code : Byte) (col colHi : Nat) (s : State) :
    Host.Outcome State Fault Refusal :=
  .next ((s.withCanvas (stuffChar s.cfg { row0, h, inv, hide } code col colHi s.canvas)).ret
    (.num (trimmedWidth s.cfg code)))

/-- `BLANK_COL` (R219). -/
def execBlankCol (row0 h inv col : Nat) (s : State) : Host.Outcome State Fault Refusal :=
  .next (s.withCanvas (blankCol s.cfg { row0, h, inv, hide := false } col s.canvas))

/-- `RENDER_LINE` (R228); a line of 4 or more is refused, as R221 says. -/
def execRenderLine (line : Nat) (content : Vector Byte 20) (isInternal : Bool) (s : State) :
    Host.Outcome State Fault Refusal :=
  if h : line < N_LINES then .next (s.renderLine ⟨line, h⟩ content isInternal) else .refused (.lineOutOfDomain line)

/-- `PUT_LINE` (R232), `n` the length of the text. -/
def execPutLine (text : List Byte) (line : Nat) (s : State) : Host.Outcome State Fault Refusal :=
  .next ((s.putLine text line).1.ret (.flag (s.putLine text line).2))

/-- `PUT_QR` (R234 to R236). -/
def execPutQr (version offset : Nat) (contrast : Byte) (s : State) : Host.Outcome State Fault Refusal :=
  .next ((s.putQr version offset contrast).1.ret (.flag (s.putQr version offset contrast).2))

/-- `FB_CLEAR` (R238). -/
def execFbClear (s : State) : Host.Outcome State Fault Refusal := .next s.fbClear

/-- `BLINK_TICK` (R240). -/
def execBlinkTick (s : State) : Host.Outcome State Fault Refusal := .next s.blinkTick

end Sys2Proof.Machine
end

