-- ==== Sys2Proof/Machine/Request.lean ====
section
/-! DEFINITION. The request machine as operations (41_rx_state_machine.md, 10_state.md R29, 60_exceptions.md R275). -/

namespace Sys2Proof.Machine

/-- `CLEAR_SLOT(i)` (R29). -/
def execClearSlot (i : Fin 3) (s : State) : Host.Outcome State Fault Refusal := .next (s.clearSlot i)

/-- `RX_STX` (R127). -/
def execRxStx (s : State) : Host.Outcome State Fault Refusal := .next s.rxStx

/-- `RX_NOISE` (R128). -/
def execRxNoise (s : State) : Host.Outcome State Fault Refusal := .next s.rxNoise

/-- `RX_ETX` (R129). -/
def execRxEtx (s : State) : Host.Outcome State Fault Refusal := .next s.rxEtx

/-- `RX_VPN` on a nibble (R133). -/
def execRxVpn (n : Nibble) (s : State) : Host.Outcome State Fault Refusal := .next (s.rxVpn n)

/-- `RX_VCMD` on a nibble (R135). -/
def execRxVcmd (n : Nibble) (s : State) : Host.Outcome State Fault Refusal := .next (s.rxVcmd n)

/-- `RX_VPAY` on a nibble (R138). -/
def execRxVpay (n : Nibble) (s : State) : Host.Outcome State Fault Refusal := .next (s.rxVpay n)

/-- `RX_VCRC` on a nibble (R140). -/
def execRxVcrc (n : Nibble) (s : State) : Host.Outcome State Fault Refusal := .next (s.rxVcrc n)

/-- The front end of the field states with the nibble accumulation (R126, R131, R132): the completed byte, or the nibble
itself where no two-nibble byte is being accumulated, goes to the caller. -/
def State.rxFieldDigit (s : State) (b : Byte) : State :=
  match s.rxFront b with
  | (s1, none) => s1
  | (s1, some n) =>
    if s1.rxState.checksummed then (s1.rxNibble n).1.ret (.optByte (s1.rxNibble n).2) else s1.ret (.nib n)

/-- `RX_FIELD_DIGIT` (R126). -/
def execRxFieldDigit (b : Byte) (s : State) : Host.Outcome State Fault Refusal := .next (s.rxFieldDigit b)

/-- `RX_DECODE_ERROR` (R130): the error path; the byte is recorded nowhere (R271). -/
def execRxDecodeError (_b : Byte) (s : State) : Host.Outcome State Fault Refusal := .next s.errorPath

/-- `RX_FIELD_CHOICE` (R137). -/
def execRxFieldChoice (s : State) : Host.Outcome State Fault Refusal := .next s.rxFieldChoice

/-- `RX_ERROR_PATH` (R275): the class is recorded nowhere (R271). -/
def execRxErrorPath (_cls : ErrClass) (s : State) : Host.Outcome State Fault Refusal := .next s.errorPath

/-- `VALIDATE(id, payload)` (R161). -/
def execValidate (id : Byte) (payload : Vector Byte 20) (s : State) : Host.Outcome State Fault Refusal :=
  .next (s.ret (.flag (validate s.cfg id payload)))

end Sys2Proof.Machine
end

