-- ==== Sys2Proof/Machine/Response.lean ====
section
/-! DEFINITION. The response machine as operations (43_tx_state_machine.md). -/

namespace Sys2Proof.Machine

/-- `ARM(i)` (R181). -/
def execArm (i : Fin 3) (s : State) : Host.Outcome State Fault Refusal := .next (s.arm i)

/-- `TX_PUMP` (R189). -/
def execTxPump (s : State) : Host.Outcome State Fault Refusal := .next s.txPump

/-- `TX_NEXT` (R190): its byte goes to the caller. -/
def execTxNext (s : State) : Host.Outcome State Fault Refusal := .next (s.txNext.1.ret (.optByte s.txNext.2))

/-- `TX_FILL(i)` (R185). -/
def execTxFill (i : Fin 3) (s : State) : Host.Outcome State Fault Refusal := .next (s.txFill i)

end Sys2Proof.Machine
end

