-- ==== Sys2Proof/Machine/WireCommands.lean ====
section
/-! DEFINITION. The eight wire commands (42_wire_commands.md): a row of format "request-frame" is the reception of its frame. -/

namespace Sys2Proof.Machine

/-- A command's request frame received byte by byte, its id as the parameters number it (R85, R106, R155; log 2, 14). -/
def State.rxRequest (s : State) (c : Cmd) (pn : Byte) (payload : List Byte) (crc : Half) : State :=
  s.rxBytes (frameBytes pn (cmdId s.cfg c) payload crc)

/-- `RDKEYS` (R156): its request frame arrives with packet number `pn` and the CRC field `crc`. -/
def execRdkeys (pn : Byte) (crc : Half) (s : State) : Host.Outcome State Fault Refusal :=
  .next (s.rxRequest .rdkeys pn [] crc)

/-- `WRLINE` (R157): its request frame arrives with packet number `pn` and the CRC field `crc`. -/
def execWrline (pn : Byte) (payload : Vector Byte 20) (crc : Half) (s : State) : Host.Outcome State Fault Refusal :=
  .next (s.rxRequest .wrline pn payload.toList crc)

/-- `SETBL` (R158): its request frame arrives with packet number `pn` and the CRC field `crc`. -/
def execSetbl (pn p0 : Byte) (crc : Half) (s : State) : Host.Outcome State Fault Refusal :=
  .next (s.rxRequest .setbl pn [p0] crc)

/-- `CLRDSP` (R159): its request frame arrives with packet number `pn` and the CRC field `crc`. -/
def execClrdsp (pn : Byte) (crc : Half) (s : State) : Host.Outcome State Fault Refusal :=
  .next (s.rxRequest .clrdsp pn [] crc)

/-- `SETLANG` (R160): its request frame arrives with packet number `pn` and the CRC field `crc`. -/
def execSetlang (pn p0 : Byte) (crc : Half) (s : State) : Host.Outcome State Fault Refusal :=
  .next (s.rxRequest .setlang pn [p0] crc)

/-- `GETVER` (R162): its request frame arrives with packet number `pn` and the CRC field `crc`. -/
def execGetver (pn : Byte) (crc : Half) (s : State) : Host.Outcome State Fault Refusal :=
  .next (s.rxRequest .getver pn [] crc)

/-- `BUZPARAM` (R163): its request frame arrives with packet number `pn` and the CRC field `crc`. -/
def execBuzparam (pn p0 p1 : Byte) (crc : Half) (s : State) : Host.Outcome State Fault Refusal :=
  .next (s.rxRequest .buzparam pn [p0, p1] crc)

/-- `BUZCTRL` (R165): its request frame arrives with packet number `pn` and the CRC field `crc`. -/
def execBuzctrl (pn p0 p1 p2 : Byte) (crc : Half) (s : State) : Host.Outcome State Fault Refusal :=
  .next (s.rxRequest .buzctrl pn [p0, p1, p2] crc)

end Sys2Proof.Machine
end

