-- ==== Sys2Proof/Machine/WireSymbols.lean ====
section
/-! DEFINITION. The wire symbols and the status byte (30_encoding.md R87, R88, R90). A wire symbol is the event of its arrival. -/

namespace Sys2Proof.Machine

/-- A command/status byte spelled as its two digits of a response (R86, R90), handed to the caller; `tx_buf` is written by
`TX_FILL` alone (R38; log 2). -/
def State.spellStatus (s : State) (cs : Byte) : State := s.ret (.bytes (hex2 cs))

/-- `CS_NOERR`: the status byte of a response without error (R90). -/
def execCsNoerr (id : Nibble) (s : State) : Host.Outcome State Fault Refusal :=
  .next (s.spellStatus (statusByte s.cfg false (id.zeroExtend 8)))

/-- `CS_ERR`: the status byte of an `ERR` response (R90). -/
def execCsErr (id : Nibble) (s : State) : Host.Outcome State Fault Refusal :=
  .next (s.spellStatus (statusByte s.cfg true (id.zeroExtend 8)))

/-- `STX` on the receive port (R87): the event `RX_BYTE` of it (R125). -/
def execStx (s : State) : Host.Outcome State Fault Refusal := .next (s.rxByte STX)

/-- `ETX` on the receive port (R87): the event `RX_BYTE` of it (R125). -/
def execEtx (s : State) : Host.Outcome State Fault Refusal := .next (s.rxByte ETX)

/-- The pad byte on the receive port (R87, R102): the event `RX_BYTE` of it (R125). -/
def execNul (s : State) : Host.Outcome State Fault Refusal := .next (s.rxByte NUL)

/-- The hex digit `0` on the receive port (R88): the event `RX_BYTE` of it (R125). -/
def execDigit0 (s : State) : Host.Outcome State Fault Refusal := .next (s.rxByte 0x30)

/-- The hex digit `1` on the receive port (R88): the event `RX_BYTE` of it (R125). -/
def execDigit1 (s : State) : Host.Outcome State Fault Refusal := .next (s.rxByte 0x31)

/-- The hex digit `2` on the receive port (R88): the event `RX_BYTE` of it (R125). -/
def execDigit2 (s : State) : Host.Outcome State Fault Refusal := .next (s.rxByte 0x32)

/-- The hex digit `3` on the receive port (R88): the event `RX_BYTE` of it (R125). -/
def execDigit3 (s : State) : Host.Outcome State Fault Refusal := .next (s.rxByte 0x33)

/-- The hex digit `4` on the receive port (R88): the event `RX_BYTE` of it (R125). -/
def execDigit4 (s : State) : Host.Outcome State Fault Refusal := .next (s.rxByte 0x34)

/-- The hex digit `5` on the receive port (R88): the event `RX_BYTE` of it (R125). -/
def execDigit5 (s : State) : Host.Outcome State Fault Refusal := .next (s.rxByte 0x35)

/-- The hex digit `6` on the receive port (R88): the event `RX_BYTE` of it (R125). -/
def execDigit6 (s : State) : Host.Outcome State Fault Refusal := .next (s.rxByte 0x36)

/-- The hex digit `7` on the receive port (R88): the event `RX_BYTE` of it (R125). -/
def execDigit7 (s : State) : Host.Outcome State Fault Refusal := .next (s.rxByte 0x37)

/-- The hex digit `8` on the receive port (R88): the event `RX_BYTE` of it (R125). -/
def execDigit8 (s : State) : Host.Outcome State Fault Refusal := .next (s.rxByte 0x38)

/-- The hex digit `9` on the receive port (R88): the event `RX_BYTE` of it (R125). -/
def execDigit9 (s : State) : Host.Outcome State Fault Refusal := .next (s.rxByte 0x39)

/-- The hex digit `A` on the receive port (R88): the event `RX_BYTE` of it (R125). -/
def execDigitA (s : State) : Host.Outcome State Fault Refusal := .next (s.rxByte 0x41)

/-- The hex digit `B` on the receive port (R88): the event `RX_BYTE` of it (R125). -/
def execDigitB (s : State) : Host.Outcome State Fault Refusal := .next (s.rxByte 0x42)

/-- The hex digit `C` on the receive port (R88): the event `RX_BYTE` of it (R125). -/
def execDigitC (s : State) : Host.Outcome State Fault Refusal := .next (s.rxByte 0x43)

/-- The hex digit `D` on the receive port (R88): the event `RX_BYTE` of it (R125). -/
def execDigitD (s : State) : Host.Outcome State Fault Refusal := .next (s.rxByte 0x44)

/-- The hex digit `E` on the receive port (R88): the event `RX_BYTE` of it (R125). -/
def execDigitE (s : State) : Host.Outcome State Fault Refusal := .next (s.rxByte 0x45)

/-- The hex digit `F` on the receive port (R88): the event `RX_BYTE` of it (R125). -/
def execDigitF (s : State) : Host.Outcome State Fault Refusal := .next (s.rxByte 0x46)

end Sys2Proof.Machine
end

