-- ==== Sys2Proof/Machine/Dispatch.lean ====
section
/-! DEFINITION. The meaning of every instruction: one arm per constructor, each a call of that instruction's meaning. -/

namespace Sys2Proof.Machine

def exec (i : Instr) (s : State) : Host.Outcome State Fault Refusal :=
  match i with
  | .rdkeys pn crc => Sys2Proof.Machine.execRdkeys pn crc s
  | .wrline pn payload crc => Sys2Proof.Machine.execWrline pn payload crc s
  | .setbl pn p0 crc => Sys2Proof.Machine.execSetbl pn p0 crc s
  | .clrdsp pn crc => Sys2Proof.Machine.execClrdsp pn crc s
  | .setlang pn p0 crc => Sys2Proof.Machine.execSetlang pn p0 crc s
  | .getver pn crc => Sys2Proof.Machine.execGetver pn crc s
  | .buzparam pn p0 p1 crc => Sys2Proof.Machine.execBuzparam pn p0 p1 crc s
  | .buzctrl pn p0 p1 p2 crc => Sys2Proof.Machine.execBuzctrl pn p0 p1 p2 crc s
  | .csNoerr id => Sys2Proof.Machine.execCsNoerr id s
  | .csErr id => Sys2Proof.Machine.execCsErr id s
  | .stx => Sys2Proof.Machine.execStx s
  | .etx => Sys2Proof.Machine.execEtx s
  | .nul => Sys2Proof.Machine.execNul s
  | .digit0 => Sys2Proof.Machine.execDigit0 s
  | .digit1 => Sys2Proof.Machine.execDigit1 s
  | .digit2 => Sys2Proof.Machine.execDigit2 s
  | .digit3 => Sys2Proof.Machine.execDigit3 s
  | .digit4 => Sys2Proof.Machine.execDigit4 s
  | .digit5 => Sys2Proof.Machine.execDigit5 s
  | .digit6 => Sys2Proof.Machine.execDigit6 s
  | .digit7 => Sys2Proof.Machine.execDigit7 s
  | .digit8 => Sys2Proof.Machine.execDigit8 s
  | .digit9 => Sys2Proof.Machine.execDigit9 s
  | .digitA => Sys2Proof.Machine.execDigitA s
  | .digitB => Sys2Proof.Machine.execDigitB s
  | .digitC => Sys2Proof.Machine.execDigitC s
  | .digitD => Sys2Proof.Machine.execDigitD s
  | .digitE => Sys2Proof.Machine.execDigitE s
  | .digitF => Sys2Proof.Machine.execDigitF s
  | .fmtInv f line icon codes => Sys2Proof.Machine.execFmtInv f line icon codes s
  | .fmtAl f line icon codes => Sys2Proof.Machine.execFmtAl f line icon codes s
  | .fmtAr f line icon codes => Sys2Proof.Machine.execFmtAr f line icon codes s
  | .fmtBlink f line icon codes => Sys2Proof.Machine.execFmtBlink f line icon codes s
  | .ctrlData pixels => Sys2Proof.Machine.execCtrlData pixels s
  | .pageSelect p => Sys2Proof.Machine.execPageSelect p s
  | .columnAddress c => Sys2Proof.Machine.execColumnAddress c s
  | .displayOn => Sys2Proof.Machine.execDisplayOn s
  | .reset => Sys2Proof.Machine.execReset s
  | .rxByte b => Sys2Proof.Machine.execRxByte b s
  | .txDone => Sys2Proof.Machine.execTxDone s
  | .tick => Sys2Proof.Machine.execTick s
  | .drainStep => Sys2Proof.Machine.execDrainStep s
  | .txPut b => Sys2Proof.Machine.execTxPut b s
  | .dispatch id payload => Sys2Proof.Machine.execDispatch id payload s
  | .schedArm => Sys2Proof.Machine.execSchedArm s
  | .crc16Update crc b => Sys2Proof.Machine.execCrc16Update crc b s
  | .crc16 bytes => Sys2Proof.Machine.execCrc16 bytes s
  | .hex2nib b => Sys2Proof.Machine.execHex2nib b s
  | .nib2hex n => Sys2Proof.Machine.execNib2hex n s
  | .hex2 v => Sys2Proof.Machine.execHex2 v s
  | .hex4 v => Sys2Proof.Machine.execHex4 v s
  | .isStx b => Sys2Proof.Machine.execIsStx b s
  | .isEtx b => Sys2Proof.Machine.execIsEtx b s
  | .rxStx => Sys2Proof.Machine.execRxStx s
  | .rxNoise => Sys2Proof.Machine.execRxNoise s
  | .rxEtx => Sys2Proof.Machine.execRxEtx s
  | .rxVpn n => Sys2Proof.Machine.execRxVpn n s
  | .rxVcmd n => Sys2Proof.Machine.execRxVcmd n s
  | .rxVpay n => Sys2Proof.Machine.execRxVpay n s
  | .rxVcrc n => Sys2Proof.Machine.execRxVcrc n s
  | .rxErrorPath cls => Sys2Proof.Machine.execRxErrorPath cls s
  | .validate id payload => Sys2Proof.Machine.execValidate id payload s
  | .arm slot => Sys2Proof.Machine.execArm slot s
  | .txPump => Sys2Proof.Machine.execTxPump s
  | .txNext => Sys2Proof.Machine.execTxNext s
  | .txFill slot => Sys2Proof.Machine.execTxFill slot s
  | .writeBits value startBit width column => Sys2Proof.Machine.execWriteBits value startBit width column s
  | .trim code => Sys2Proof.Machine.execTrim code s
  | .tw code => Sys2Proof.Machine.execTw code s
  | .stuffChar row0 h inv hide code col colHi => Sys2Proof.Machine.execStuffChar row0 h inv hide code col colHi s
  | .blankCol row0 h inv col => Sys2Proof.Machine.execBlankCol row0 h inv col s
  | .renderLine line content isInternal => Sys2Proof.Machine.execRenderLine line content isInternal s
  | .putLine text line => Sys2Proof.Machine.execPutLine text line s
  | .putQr version offset contrast => Sys2Proof.Machine.execPutQr version offset contrast s
  | .fbClear => Sys2Proof.Machine.execFbClear s
  | .blinkTick => Sys2Proof.Machine.execBlinkTick s
  | .clearSlot slot => Sys2Proof.Machine.execClearSlot slot s
  | .rxFieldDigit b => Sys2Proof.Machine.execRxFieldDigit b s
  | .rxDecodeError b => Sys2Proof.Machine.execRxDecodeError b s
  | .rxFieldChoice => Sys2Proof.Machine.execRxFieldChoice s

end Sys2Proof.Machine
end

