-- ==== Sys2Proof/Machine/Step.lean ====
section
/-! DEFINITION. One step of the machine: it takes the environment's next input and runs it to completion (00_scope.md
R12). -/

namespace Sys2Proof.Machine

/-- The environment's next input, run to completion. With none pending the block is idle and holds its state (R291). A
packet's instruction runs with the packet taken from the queue and with `fresh` cleared, which only `RESET` sets. -/
def step (s : State) : Host.Outcome State Fault Refusal :=
  match s.pending with
  | [] => .next s
  | .layout l :: rest => { s with pending := rest }.writeLayout l
  | .packet bytes :: rest =>
    match decode bytes with
    | .ok i => exec i { s with pending := rest, fresh := false }
    | .bad _ => .refused (.undecodable bytes)

/-- The state with a table word's instruction as the environment's next input (log 9). -/
def State.withFetchWord (s : State) (nbits w : Nat) : State :=
  { s with pending := .packet (tablePacket nbits w) :: s.pending }

end Sys2Proof.Machine
end

