-- ==== Sys2Proof/Safety.lean ====
section
/-! DEFINITION. The terms the statements use: what a state must satisfy on this hardware, which instructions are events of
the block's agents, and the host discipline `H1` (10_state.md R40). -/

namespace Sys2Proof

open Machine

/-! ### The events of the agents (R11) -/

/-- The instructions an agent of R11 can cause: wire traffic, `TX_DONE`, `TICK`, `DRAIN_STEP`, `RESET` and the rendering
operations of the dispatcher port. The other rows are values or internal operations. -/
def Instr.isEvent : Instr → Bool
  | .rdkeys _ _ | .wrline _ _ _ | .setbl _ _ _ | .clrdsp _ _ | .setlang _ _ _ | .getver _ _ | .buzparam _ _ _ _
  | .buzctrl _ _ _ _ _ => true
  | .stx | .etx | .nul | .digit0 | .digit1 | .digit2 | .digit3 | .digit4 | .digit5 | .digit6 | .digit7 | .digit8
  | .digit9 | .digitA | .digitB | .digitC | .digitD | .digitE | .digitF => true
  | .reset | .rxByte _ | .txDone | .tick | .drainStep => true
  | .renderLine _ _ _ | .putLine _ _ | .putQr _ _ _ | .fbClear => true
  | _ => false

/-- A request-frame instruction's command, packet number, payload and CRC field. -/
def Instr.request : Instr → Option (Cmd × Byte × List Byte × Half)
  | .rdkeys pn crc => some (.rdkeys, pn, [], crc)
  | .wrline pn payload crc => some (.wrline, pn, payload.toList, crc)
  | .setbl pn p0 crc => some (.setbl, pn, [p0], crc)
  | .clrdsp pn crc => some (.clrdsp, pn, [], crc)
  | .setlang pn p0 crc => some (.setlang, pn, [p0], crc)
  | .getver pn crc => some (.getver, pn, [], crc)
  | .buzparam pn p0 p1 crc => some (.buzparam, pn, [p0, p1], crc)
  | .buzctrl pn p0 p1 p2 crc => some (.buzctrl, pn, [p0, p1, p2], crc)
  | _ => none

/-- The byte a wire symbol is. -/
def Instr.wireByte : Instr → Option Byte
  | .stx => some 0x02
  | .etx => some 0x03
  | .nul => some 0x00
  | .digit0 => some 0x30
  | .digit1 => some 0x31
  | .digit2 => some 0x32
  | .digit3 => some 0x33
  | .digit4 => some 0x34
  | .digit5 => some 0x35
  | .digit6 => some 0x36
  | .digit7 => some 0x37
  | .digit8 => some 0x38
  | .digit9 => some 0x39
  | .digitA => some 0x41
  | .digitB => some 0x42
  | .digitC => some 0x43
  | .digitD => some 0x44
  | .digitE => some 0x45
  | .digitF => some 0x46
  | _ => none

/-- The value of a hex digit row (R88). -/
def Instr.digitValue : Instr → Option Nibble
  | .digit0 => some 0
  | .digit1 => some 1
  | .digit2 => some 2
  | .digit3 => some 3
  | .digit4 => some 4
  | .digit5 => some 5
  | .digit6 => some 6
  | .digit7 => some 7
  | .digit8 => some 8
  | .digit9 => some 9
  | .digitA => some 10
  | .digitB => some 11
  | .digitC => some 12
  | .digitD => some 13
  | .digitE => some 14
  | .digitF => some 15
  | _ => none

/-- The format flag of a format row with its operands: the flag's position, the format byte, the line, the left icon and
the glyph codes (R97, R98). -/
def Instr.format (cfg : Config) : Instr → Option (Fin 8 × Byte × Byte × Byte × Vector Byte 17)
  | .fmtInv f line icon codes => some (cfg.fmtInv, f, line, icon, codes)
  | .fmtAl f line icon codes => some (cfg.fmtAl, f, line, icon, codes)
  | .fmtAr f line icon codes => some (cfg.fmtAr, f, line, icon, codes)
  | .fmtBlink f line icon codes => some (cfg.fmtBlink, f, line, icon, codes)
  | _ => none

/-- The result a pure operation returns under the parameters `cfg` (files 40, 42, 45). -/
def Instr.pureResult (cfg : Config) : Instr → Option Ret
  | .crc16Update crc b => some (.half (Sys2Proof.crc16Update crc b))
  | .crc16 bytes => some (.half (Sys2Proof.crc16 cfg.crcInit bytes))
  | .hex2nib b =>
    some (.okNib (Sys2Proof.hex2nib cfg.hexAcceptLower b).isSome ((Sys2Proof.hex2nib cfg.hexAcceptLower b).getD 0))
  | .nib2hex n => some (.byte (Sys2Proof.nib2hex n))
  | .hex2 v => some (.bytes (Sys2Proof.hex2 v))
  | .hex4 v => some (.bytes (Sys2Proof.hex4 v))
  | .isStx b => some (.flag (b == STX))
  | .isEtx b => some (.flag (b == ETX))
  | .validate id p => some (.flag (Machine.validate cfg id p))
  | .trim code => some (.pair (trimGlyph cfg code).1 (trimGlyph cfg code).2)
  | .tw code => some (.num (trimmedWidth cfg code))
  | _ => none

end Sys2Proof

namespace Sys2Proof.Machine

/-! ### What the parameters must satisfy -/

/-- The catalog's ids are distinct, none of them 0, all below `CATALOG_SIZE` (R91, R92). -/
def catalogLegal (cfg : Config) : Bool :=
  Cmd.all.all fun c => cmdOf cfg (cmdId cfg c) == some c && !invalidId cfg (cmdId cfg c)

/-- Every glyph is at most 32 columns wide (R53, R99). -/
def glyphsLegal (cfg : Config) : Bool := cfg.glyph.toList.all fun g => decide (g.width ≤ 32)

/-! ### Invariants that every instruction keeps -/

/-- The framebuffer is in its canonical form, inside the 768 addresses of R60. -/
def State.fbInv (s : State) : Prop := s.fb.wf = true

/-- The blink invariant (R55): a live task's `hide` is the global phase. -/
def State.blinkInv (s : State) : Prop :=
  ∀ line : Fin 4, s.task[line.val].live = true → s.task[line.val].hide = s.blinkPhase

/-- The stored command id is 0 or a valid id (R21). -/
def State.cmdInv (s : State) : Prop :=
  ∀ i : Fin 3, (s.slot i).cmd = 0 ∨ invalidId s.cfg (s.slot i).cmd = false

/-- A slot with `err = 1` has `ack != NOT_READY` (R276 c). -/
def State.errInv (s : State) : Prop := ∀ i : Fin 3, (s.slot i).err = true → (s.slot i).ack ≠ .notReady

/-- The layout in force and the one `RESET` installs are legal (R46). -/
def State.layoutInv (s : State) : Prop := legalLayout s.layout = true ∧ legalLayout s.cfg.lineLayout = true

/-- The version counters fit `VER_BITS` bits (R47, R48). -/
def State.verInv (s : State) : Prop :=
  ∀ p : Fin 6, s.ver[p.val] < 2 ^ s.cfg.verBits ∧ s.sent[p.val] < 2 ^ s.cfg.verBits

/-- All of these together. -/
def State.inv (s : State) : Prop :=
  s.fbInv ∧ s.blinkInv ∧ s.cmdInv ∧ s.errInv ∧ s.layoutInv ∧ s.verInv

/-! ### The request machine's invariant -/

/-- A frame is open exactly when `delim` is 1 outside `VF` (R32), and the slot of an open frame is `NOT_READY` without
error (R127, R181). -/
def State.rxInv (s : State) : Prop :=
  (s.rxState ≠ .vf → s.delim = true) ∧ (s.delim = true → s.rxSlot.ack = .notReady ∧ s.rxSlot.err = false)

/-- The counters of an open field and of a response being sent are in range: `nib_cnt` is 0 or 1 where bytes are
accumulated (R33), `pay_cnt` is below `REQ_LEN` in `VPAY` (R34), and the cursor of a `SENDING` slot is 1, or at most the
length of the formatted response (R37, R38). -/
def State.counterInv (s : State) : Prop :=
  (s.rxState = .vpn ∨ s.rxState = .vcmd ∨ s.rxState = .vpay → s.nibCnt.toNat < 2) ∧
  (s.rxState = .vpay → s.payCnt.toNat < reqLen s.cfg s.rxSlot.cmd) ∧
  ((s.slot s.txIdx).ack = .sending →
    s.txCursor = 1 ∨ (1 ≤ s.txCursor.toNat ∧ s.txCursor.toNat ≤ s.txLen.toNat ∧ s.txLen.toNat ≤ 14))

/-! ### The ring under the host discipline H1 (R40) -/

/-- The slots that are `TO_BE_SEND` or `SENDING`. -/
def State.outstanding (s : State) : Nat := (s.slots.toList.filter fun sl => sl.ack.outstanding).length

/-- `H1` (R40): an `STX` that would open a frame comes only with at most one response outstanding. -/
def State.hostOk (s : State) (b : Byte) : Prop :=
  b = STX → s.rxState = .vf → s.delim = false → s.outstanding ≤ 1

/-- The shapes of the ring, seen from the slot under `tx_idx`: its `ack`, the two after it, how far `rx_idx` is ahead,
whether a frame is open, whether a byte is in flight. -/
def ringShape (a0 a1 a2 : Ack) (ahead : Fin 3) (isOpen busy : Bool) : Bool :=
  match a0 with
  | .notReady => a1 == .notReady && a2 == .notReady && ahead == 0 && !busy
  | .toBeSend => false
  | _ =>
    (a0 != .sending || busy) && ((a1 != .toBeSend && a2 != .toBeSend) || busy) && a1 != .sending && a2 != .sending &&
    (match ahead with
      | 0 => !isOpen && a1 != .toBeSend && a2 != .toBeSend && (a1 != .sent || a2 == .sent)
      | 1 => (!isOpen || a1 == .notReady) && a1 != .sent && a2 != .toBeSend
      | 2 => (!isOpen || a2 == .notReady) && a0 == .sent && a1 == .toBeSend && a2 != .sent)

/-- The ring invariant that holds under `H1`. -/
def State.ringInv (s : State) : Prop :=
  ringShape (s.slot s.txIdx).ack (s.slot (ringNext s.txIdx)).ack (s.slot (ringNext (ringNext s.txIdx))).ack
    (s.rxIdx - s.txIdx) s.delim s.txBusy = true

/-! ### Requests and responses -/

/-- The first `n` bytes of a request payload in the 20 bytes of its slot, the rest 0 (R24). -/
def slotPayload (payload : List Byte) : Vector Byte 20 := overwrite (Vector.replicate 20 0) 0 payload

/-- The state when the last byte of a frame's command field, or of its payload where it has one, has arrived without
error: the steered slot holds the decoded values (R127 to R138). -/
def State.parsed (s : State) (pn id : Byte) (payload : List Byte) : State :=
  { s with
    slots := s.slots.set s.rxTarget.val
      { cmd := id
        err := false
        pn := pn
        payload := slotPayload payload
        resp := Vector.replicate 2 0
        crcRx := 0
        crcCalc := crc16 s.cfg.crcInit (frameBody pn id payload)
        ack := .notReady } s.rxTarget.isLt
    rxIdx := s.rxTarget
    rxState := .vcrc
    delim := true
    nibCnt := 0
    payCnt := if payload.length = 0 then s.payCnt else BitVec.ofNat 5 payload.length
    acc := payload.getLastD id &&& 0xF0 }

/-- The same with the four digits of the CRC field received (R140), awaiting `ETX`. -/
def State.received (s : State) (pn id : Byte) (payload : List Byte) (crc : Half) : State :=
  { (s.parsed pn id payload).modSlot s.rxTarget fun sl => { sl with crcRx := crc } with rxState := .vf }

/-- The state can take a new frame: it is idle and the slot an `STX` would take is not outstanding (R127). -/
def State.accepts (s : State) : Prop :=
  s.rxState = .vf ∧ s.delim = false ∧ (s.slot s.rxTarget).ack.outstanding = false

/-- The payload passes its validator where the command has one to pass (R138, R161). -/
def requestValid (cfg : Config) (c : Cmd) (payload : List Byte) : Prop :=
  c.reqLen = 0 ∨ validate cfg (cmdId cfg c) (slotPayload payload) = true

/-- The bytes of a response frame (R86): `STX` and what `TX_FILL` stores. -/
def responseFrame (cfg : Config) (pn : Byte) (err : Bool) (cmd : Byte) (resp : List Byte) : List Byte :=
  frameBytes pn (statusByte cfg err cmd) resp (crc16 cfg.crcInit (frameBody pn (statusByte cfg err cmd) resp))

/-! ### Lines -/

/-- Pixel row `g` belongs to line `L` (R72). -/
def lineHas (layout : Vector LineLayout 4) (line : Fin 4) (g : Nat) : Prop :=
  lineRow0 layout line ≤ g ∧ g < lineRow0 layout line + lineHeight layout line

/-- Page `p` holds a row of line `L`. -/
def pageOf (layout : Vector LineLayout 4) (line : Fin 4) (p : Nat) : Prop :=
  ∃ g, lineHas layout line g ∧ g / 8 = p

/-! ### What a rendered line shows (R222 to R227) -/

/-- Columns a text takes: each glyph after one blank column (R225). -/
def textCost (cfg : Config) (ts : List Byte) : Nat := (ts.map fun t => 1 + trimmedWidth cfg t).sum

/-- The longest beginning of a text that takes at most `avail` columns (R225). -/
def textThatFits (cfg : Config) (avail : Nat) (ts : List Byte) : List Byte :=
  ts.take (((List.range (ts.length + 1)).reverse.find? fun k => decide (textCost cfg (ts.take k) ≤ avail)).getD 0)

/-- Where the glyphs of a text stand that starts at a column: each after its blank column (R226). -/
def textPlaces (cfg : Config) (colHi : Nat) : List Byte → Nat → List BlinkRec
  | [], _ => []
  | t :: ts, col => { code := t, col := col + 1, colHi } :: textPlaces cfg colHi ts (col + 1 + trimmedWidth cfg t)

/-- The glyphs of a line content with their first columns and right boundaries, in drawing order: the left icon at column 0
(R223), the right icon at the right edge, 3 columns kept before it (R224), the text that fits between them, left, right or
centred (R225). -/
def linePlaces (cfg : Config) (content : Vector Byte 20) : List BlinkRec :=
  let lo := trimmedWidth cfg content[0]
  let right := 128 - trimmedWidth cfg content[19]
  let hi := if 127 < content[19].toNat then right - 3 else 128
  let text := textThatFits cfg (hi - lo) (lineText content)
  let width := textCost cfg text
  let start :=
    if content[1].getLsbD cfg.fmtAl.val then lo
    else if content[1].getLsbD cfg.fmtAr.val then hi - width
    else lo + (hi - lo - width) / 2
  [{ code := content[0], col := 0, colHi := 128 }] ++
    (if 127 < content[19].toNat then [{ code := content[19], col := right, colHi := 128 }] else []) ++
    textPlaces cfg hi text start

/-- The bits column `c` shows before inversion: the column of the glyph that stands there, none where it blinks and the
phase hides it (R226), none where no glyph stands. -/
def placedBits (cfg : Config) (hide : Bool) (places : List BlinkRec) (c : Nat) : Nat :=
  match places.find? fun r => decide (r.col ≤ c ∧ c < r.col + trimmedWidth cfg r.code) with
  | some r =>
    if (glyph cfg r.code).isBlinking && hide then 0
    else glyphCol cfg r.code ((trimGlyph cfg r.code).1 + (c - r.col))
  | none => 0

/-- The glyph a blink task follows: the last drawn of those that blink and have some width (R227). -/
def recordedGlyph (cfg : Config) (content : Vector Byte 20) : Option BlinkRec :=
  ((linePlaces cfg content).filter fun r => (glyph cfg r.code).isBlinking && decide (0 < trimmedWidth cfg r.code)).getLast?

/-! ### Outputs -/

/-- An event on the controller port (R15). -/
def Output.isController : Output → Bool
  | .ctrlCmd _ => true
  | .ctrlData _ => true
  | _ => false

/-- A call of the dispatcher (R17). -/
def Output.isDispatch : Output → Bool
  | .dispatch _ _ => true
  | _ => false

/-- What a whole flush of page `p` sends (R259). -/
def pageOutput (cfg : Config) (m : Memory) (p : Fin 6) : List Output :=
  [.ctrlCmd (.pageSelect p), .ctrlCmd (.columnAddress 0)] ++
    (List.range N_COLS).map (fun c => .ctrlData (dataWord cfg (memRead m p.val c))) ++ [.ctrlCmd .displayOn]

/-! ### Runs -/

/-- The state an outcome answers, if it answers one. -/
def nextOf : Host.Outcome State Fault Refusal → Option State
  | .next t => some t
  | .fault _ => none
  | .refused _ => none

/-- `n` times the instruction `i`, each on the state the one before left, stopping at the first fault or refusal. -/
def execTimes (i : Instr) : Nat → State → Host.Outcome State Fault Refusal
  | 0, s => .next s
  | n + 1, s =>
    match exec i s with
    | .next t => execTimes i n t
    | .fault r => .fault r
    | .refused r => .refused r

end Sys2Proof.Machine
end

