-- ==== Sys2Proof/WellFormed.lean ====
section
/-! DEFINITION. When an instruction's operands are ones the spec admits for it and its packet can carry (assumption log
1). Running an instruction never depends on this check. -/

namespace Sys2Proof

/-- The operands are in the ranges the instruction's row and rule give. -/
def Instr.wf : Instr → Bool
  | .rdkeys _ _ => true
  | .wrline _ _ _ => true
  | .setbl _ _ _ => true
  | .clrdsp _ _ => true
  | .setlang _ _ _ => true
  | .getver _ _ => true
  | .buzparam _ _ _ _ => true
  | .buzctrl _ _ _ _ _ => true
  | .csNoerr _ => true
  | .csErr _ => true
  | .stx => true
  | .etx => true
  | .nul => true
  | .digit0 => true
  | .digit1 => true
  | .digit2 => true
  | .digit3 => true
  | .digit4 => true
  | .digit5 => true
  | .digit6 => true
  | .digit7 => true
  | .digit8 => true
  | .digit9 => true
  | .digitA => true
  | .digitB => true
  | .digitC => true
  | .digitD => true
  | .digitE => true
  | .digitF => true
  | .fmtInv f _ _ _ => f.getLsbD 0
  | .fmtAl f _ _ _ => f.getLsbD 1
  | .fmtAr f _ _ _ => f.getLsbD 2
  | .fmtBlink f _ _ _ => f.getLsbD 3
  | .ctrlData _ => true
  | .pageSelect _ => true
  | .columnAddress _ => true
  | .displayOn => true
  | .reset => true
  | .rxByte _ => true
  | .txDone => true
  | .tick => true
  | .drainStep => true
  | .txPut _ => true
  | .dispatch _ _ => true
  | .schedArm => true
  | .crc16Update _ _ => true
  | .crc16 _ => true
  | .hex2nib _ => true
  | .nib2hex _ => true
  | .hex2 _ => true
  | .hex4 _ => true
  | .isStx _ => true
  | .isEtx _ => true
  | .rxStx => true
  | .rxNoise => true
  | .rxEtx => true
  | .rxVpn _ => true
  | .rxVcmd _ => true
  | .rxVpay _ => true
  | .rxVcrc _ => true
  | .rxErrorPath _ => true
  | .validate _ _ => true
  | .arm _ => true
  | .txPump => true
  | .txNext => true
  | .txFill _ => true
  | .writeBits value startBit width column => value < 2 ^ 64 && startBit < 256 && width < 256 && column < 256
  | .trim _ => true
  | .tw _ => true
  | .stuffChar row0 h inv _ _ col colHi => row0 < 256 && h < 256 && inv < 2 ^ 64 && col < 256 && colHi < 256
  | .blankCol row0 h inv col => row0 < 256 && h < 256 && inv < 2 ^ 64 && col < 256
  | .renderLine line _ _ => line < 256
  | .putLine _ line => line < 256
  | .putQr version offset _ => version < 256 && offset < 256
  | .fbClear => true
  | .blinkTick => true
  | .clearSlot _ => true
  | .rxFieldDigit _ => true
  | .rxDecodeError _ => true
  | .rxFieldChoice => true

end Sys2Proof
end

