-- ==== Sys2Proof/Certificates/Slice0/Obligations.lean ====
section
/-! DEFINITION. The statements about the model, from the numbered rules of spec/. The parameters of R19 and the two ROMs are
fields of the state, so every statement quantifies over them. -/

open Sys2Proof Sys2Proof.Machine

/-! ### The step, the packets and the environment's inputs (model's own form: logs 1, 9, 13, 17) -/

/-- A step runs the decoded instruction (model's own packets, log 1), a table word placed with `withFetchWord` among them;
a packet that is no instruction is refused; with nothing pending a step holds the whole state (R291, log 17). -/
def Obligations.StepRunsTheDecodedInstruction : Prop :=
  (∀ (s : State) (bytes : List Byte) (rest : List Input) (i : Instr),
    s.pending = .packet bytes :: rest → decode bytes = .ok i →
      step s = exec i { s with pending := rest, fresh := false }) ∧
  (∀ (s : State) (nbits w : Nat) (i : Instr),
    decodeTableWord nbits w = some i → step (s.withFetchWord nbits w) = exec i { s with fresh := false }) ∧
  (∀ (s : State) (bytes : List Byte) (rest : List Input) (e : DecodeError),
    s.pending = .packet bytes :: rest → decode bytes = .bad e → step s = .refused (.undecodable bytes)) ∧
  (∀ s : State, s.pending = [] → step s = .next s)

/-- R311: the layout is replaced by a legal one between `RESET` and the first other event, and refused after it. The flag
`fresh` that opens the write, and that every decoded instruction but `RESET` closes it, a row that is no event of R11 too,
are the model's choice (log 13). -/
def Obligations.LayoutIsWrittenAtInitTimeOnly : Prop :=
  (∀ (s : State) (l : Vector LineLayout 4) (rest : List Input), s.pending = .layout l :: rest →
    let legal := (∀ x ∈ l.toList, 1 ≤ x.height.toNat) ∧
      (l.toList.map fun x => x.upperIndent.toNat + x.height.toNat).sum = 48
    (s.fresh = true → legal → step s = .next { s with layout := l, pending := rest }) ∧
    (s.fresh = true → ¬legal → step s = .refused .illegalLayout) ∧
    (s.fresh = false → step s = .refused .layoutAfterBoot)) ∧
  (∀ (s t : State) (bytes : List Byte) (rest : List Input) (i : Instr),
    s.pending = .packet bytes :: rest → decode bytes = .ok i → step s = .next t → (t.fresh = true ↔ i = .reset))

/-! ### Encoding -/

/-- Decoding the packet of a well-formed instruction gives the instruction back, for every row and every operand (log 1). -/
def Obligations.DecodeOfEncode : Prop := ∀ i : Instr, i.wf = true → decode (encode i) = .ok i

/-- A packet that decodes is the packet of the instruction it decodes to, which is well formed: no two packets stand for one
instruction (log 1). -/
def Obligations.DecodedPacketsAreEncodings : Prop :=
  ∀ (bytes : List Byte) (i : Instr), decode bytes = .ok i → i.wf = true ∧ encode i = bytes

/-- The packet of a request-frame row is a tag and a frame of the shape of R85, its bytes and its length. That there is a
packet, and its tag, are the model's choice (log 1), and so is that the packet has the opcode table's numbering whatever
`CMD_MAP` is (log 27). -/
def Obligations.RequestFrameLayout : Prop :=
  ∀ (i : Instr) (c : Cmd) (pn : Byte) (p : List Byte) (crc : Half), i.request = some (c, pn, p, crc) →
    p.length = c.reqLen ∧
    encode i = [Tag.frame.toByte, 0x02] ++ hex2 pn ++ hex2 c.tableId ++ p.flatMap hex2 ++ hex4 crc ++ [0x03, 0x00] ∧
    (encode i).length = 1 + (11 + 2 * c.reqLen)

/-- A few packets whose bytes after the tag are written out from R85, R87, R90, R97 and R100 decode to the rows they stand
for. The tags are the model's choice (log 1), and so are how `decodeTableWord` reads a bare table word, the order of the
overlapping formats and the zero digits it fills in (log 3), and that a packet has the table's ids and bits whatever the
parameters are (log 27). -/
def Obligations.WrittenOutWordsDecode : Prop :=
  decode [0x02, 0x02, 0x31, 0x30, 0x30, 0x31, 0x32, 0x37, 0x44, 0x42, 0x03, 0x00] = .ok (.rdkeys 0x10 0x27DB) ∧
  decode [0x02, 0x02, 0x30, 0x36, 0x30, 0x38, 0x30, 0x32, 0x30, 0x33, 0x30, 0x41, 0x38, 0x32, 0x44, 0x32, 0x03, 0x00]
    = .ok (.buzctrl 0x06 0x02 0x03 0x0A 0x82D2) ∧
  decode [0x01, 0x02] = .ok .stx ∧ decode [0x01, 0x46] = .ok .digitF ∧ decode [0x01, 0x47] = .bad (.notWireSymbol 0x47) ∧
  decode [0x03, 0x86] = .ok (.csErr 6) ∧ decode [0x03, 0x46] = .bad (.badStatusNibble 0x46) ∧
  decode ([0x05, 0x0A, 0x03, 0x80] ++ List.replicate 17 0x48) = .ok (.fmtAl 0x0A 3 0x80 (Vector.replicate 17 0x48)) ∧
  decode [0x08, 0x01, 0xA5] = .ok (.ctrlData 0xA5) ∧ decode [0x08, 0x00, 0xA5] = .bad .notDataWord ∧
  decodeTableWord 16 0x3031 = some (.rdkeys 0 0) ∧ decodeTableWord 8 0x86 = some (.csErr 6)

/-! ### Reset -/

/-- R300: `RESET` puts every register at its reset value, emits nothing and leaves the ROMs and parameters. That an illegal
`LINE_LAYOUT` is installed too is the model's choice (log 30). The model's own fields are its choice: that `fresh` is set (logs 12, 13), and that `pending`, `replies`, `keyReads` and `out` stay (logs 12,
21). -/
def Obligations.ResetPutsEveryRegisterAtItsResetValue : Prop :=
  ∀ s : State, exec .reset s = .next
    { slots := Vector.replicate 3
        { cmd := 0, err := false, pn := 0, payload := Vector.replicate 20 0, resp := Vector.replicate 2 0,
          crcRx := 0, crcCalc := s.cfg.crcInit, ack := .notReady }
      rxState := .vf, delim := false, nibCnt := 0, payCnt := 0, rxIdx := 0, acc := 0
      txIdx := 0, txCursor := 0, txBuf := Vector.replicate 14 0, txLen := 0, txBusy := false
      drainPage := 5, drainCol := 0, blinkPhase := false, schedArmed := false
      layout := s.cfg.lineLayout
      fb := [], ver := Vector.replicate 6 0, sent := Vector.replicate 6 0
      linebuf := Vector.replicate 4 (Vector.replicate 20 0), cacheValid := Vector.replicate 4 false
      task := Vector.replicate 4
        { live := false, code := 0, col := 0, row0 := 0, h := 0, inv := 0, colHi := 0, hide := false }
      cfg := s.cfg
      fresh := true, pending := s.pending, replies := s.replies, keyReads := s.keyReads, out := s.out }

/-- The state after reset satisfies every invariant, for every legal `LINE_LAYOUT`; under the default parameters `RESET`
leads to `State.reset`, the environment's side of the ports aside (log 21). -/
def Obligations.ResetMeetsEveryInvariant : Prop :=
  (∀ cfg : Config, legalLayout cfg.lineLayout = true →
    (State.resetWith cfg).inv ∧ (State.resetWith cfg).rxInv ∧ (State.resetWith cfg).counterInv ∧
      (State.resetWith cfg).ringInv) ∧
  State.reset.inv ∧ State.reset.rxInv ∧ State.reset.counterInv ∧ State.reset.ringInv ∧
  (∀ s : State, s.cfg = Config.default → exec .reset s = .next
    { State.reset with pending := s.pending, replies := s.replies, keyReads := s.keyReads, out := s.out })

/-! ### Invariants of every step -/

/-- Every step keeps the framebuffer canonical (R66), a live task's `hide` equal to the phase (R55), the stored ids legal
(R21), an erroneous slot not `NOT_READY` (R276 c), the layout legal (R46) and the versions in range (R48), and changes no
parameter or ROM (R53, R56, R57). -/
def Obligations.EveryStepKeepsTheInvariant : Prop :=
  ∀ s t : State, s.inv → step s = .next t → t.inv ∧ t.cfg = s.cfg

/-- Every event keeps: a frame is open in every field state (R32), and an open frame's slot is `NOT_READY` without error
(R127, R181). -/
def Obligations.EventsKeepTheRequestInvariant : Prop :=
  ∀ (s t : State) (i : Instr), i.isEvent = true → s.rxInv → exec i s = .next t → t.rxInv

/-- Every event keeps the counters of the request machine and of the response machine in range (R33, R34, R37), which is
what lets the field and streaming statements below name a byte of the payload and of the buffer (log 15). -/
def Obligations.EventsKeepTheCountersInRange : Prop :=
  ∀ (s t : State) (i : Instr), i.isEvent = true → s.counterInv → exec i s = .next t → t.counterInv

/-- Under the host discipline H1 (R40) every received byte and every `TX_DONE` keeps the ring invariant. -/
def Obligations.ByteEventsKeepTheRingInvariant : Prop :=
  (∀ (s t : State) (b : Byte), s.rxInv → s.ringInv → s.hostOk b → exec (.rxByte b) s = .next t → t.ringInv) ∧
  (∀ s t : State, s.ringInv → exec .txDone s = .next t → t.ringInv)

/-- R40 (b): where the ring invariant holds and a slot is armed, a byte is in flight and the slot under `tx_idx` or the next
one is `TO_BE_SEND` or `SENDING`; and with the counters in range each armed slot is `SENT` within 45 completions, three times
the 15 bytes of the longest response. -/
def Obligations.ArmedSlotsWillBeSent : Prop :=
  (∀ s : State, s.ringInv → (∃ i : Fin 3, (s.slot i).ack = .toBeSend) →
    s.txBusy = true ∧
      ((s.slot s.txIdx).ack = .toBeSend ∨ (s.slot s.txIdx).ack = .sending ∨
       (s.slot (ringNext s.txIdx)).ack = .toBeSend ∨ (s.slot (ringNext s.txIdx)).ack = .sending)) ∧
  (∀ (s : State) (i : Fin 3), s.ringInv → s.counterInv → (s.slot i).ack = .toBeSend →
    ∃ (n : Nat) (t : State), n ≤ 45 ∧ execTimes .txDone n s = .next t ∧ (t.slot i).ack = .sent)

/-- R40 (c): where the ring invariant holds and two slots are armed, a `TX_DONE` does not start the newest, the one
current for RX. -/
def Obligations.NewestArmedSlotWaitsItsTurn : Prop :=
  ∀ (s : State) (k : Fin 3), s.ringInv → k ≠ s.rxIdx → (s.slot k).ack = .toBeSend → (s.slot s.rxIdx).ack = .toBeSend →
    ∃ t, exec .txDone s = .next t ∧ (t.slot s.rxIdx).ack = .toBeSend

/-- R40 (a): a received byte leaves a `TO_BE_SEND` or `SENDING` slot what it holds; at most its `ack` goes on. -/
def Obligations.ReceivingNeverClearsAnOutstandingSlot : Prop :=
  ∀ (s t : State) (b : Byte) (j : Fin 3), s.rxInv → (s.slot j).ack.outstanding = true → exec (.rxByte b) s = .next t →
    t.slot j = { s.slot j with ack := (t.slot j).ack } ∧ (t.slot j).ack ≠ .notReady ∧
      ((s.slot j).ack = .sending → (t.slot j).ack ≠ .toBeSend)

/-! ### CRC unit, nibble codec, glyph geometry and validators -/

/-- The pure operations complete in every state, hand their result to the caller and touch no register (file 40, R161,
R216, R217). -/
def Obligations.PureOperationsReturnTheirResult : Prop :=
  ∀ (i : Instr) (s : State) (v : Ret), i.pureResult s.cfg = some v → exec i s = .next { s with out := s.out ++ [.ret v] }

/-- R111: the bitwise form, the corner cases, and the table form for every operand pair. -/
def Obligations.CrcUpdateIsTheReflectedForm : Prop :=
  let turn : Half → Half := fun c => if c.getLsbD 0 then (c >>> 1) ^^^ 0xA001 else c >>> 1
  (∀ (crc : Half) (b : Byte), crc16Update crc b =
    turn (turn (turn (turn (turn (turn (turn (turn (crc ^^^ b.zeroExtend 16))))))))) ∧
  (∀ (crc : Half) (b : Byte), crc16Update crc b = (crc >>> 8) ^^^ crc16Update 0 ((crc ^^^ b.zeroExtend 16).truncate 8)) ∧
  crc16Update 0x0000 0x00 = 0x0000 ∧ crc16Update 0x0000 0x01 = 0xC0C1 ∧ crc16Update 0x0000 0xFF = 0x4040 ∧
  crc16Update 0xFFFF 0x00 = 0x40BF ∧ crc16Update 0xFFFF 0xFF = 0x00FF ∧ crc16Update 0x0000 0x30 = 0x1400 ∧
  turn 0x0030 = 0x0018 ∧ turn 0x0018 = 0x000C ∧ turn 0x000C = 0x0006 ∧ turn 0x0006 = 0x0003 ∧ turn 0x0003 = 0xA000 ∧
  turn 0xA000 = 0x5000 ∧ turn 0x5000 = 0x2800 ∧ turn 0x2800 = 0x1400 ∧
  (∀ (s : State) (crc : Half) (b : Byte),
    exec (.crc16Update crc b) s = .next { s with out := s.out ++ [.ret (.half (crc16Update crc b))] })

/-- R112 and the check value of R113: `CRC16` is the fold of `CRC16_UPDATE` from `CRC_INIT`, incremental and whole forms
agreeing. -/
def Obligations.CrcOfASequenceIsTheFold : Prop :=
  (∀ s : State, exec (.crc16 []) s = .next { s with out := s.out ++ [.ret (.half s.cfg.crcInit)] }) ∧
  (∀ (s : State) (bs : List Byte) (b : Byte), exec (.crc16 (bs ++ [b])) s =
    .next { s with out := s.out ++ [.ret (.half (crc16Update (crc16 s.cfg.crcInit bs) b))] }) ∧
  crc16 0x0000 [0x30] = 0x1400 ∧ crc16 0x0000 [0x30, 0x31] = 0xD4D5 ∧ crc16 0x0000 [0x30, 0x31, 0x30] = 0x8B15 ∧
  crc16 0x0000 [0x30, 0x31, 0x30, 0x36] = 0xD9CA ∧
  crc16 0x0000 [0x31, 0x32, 0x33, 0x34, 0x35, 0x36, 0x37, 0x38, 0x39] = 0xBB3D

/-- R115: `CRC16_UPDATE` is a bijection on the running CRC for each byte, so two different running CRCs never merge. -/
def Obligations.RunningCrcsNeverMerge : Prop :=
  (∀ b : Byte, Function.Bijective fun c : Half => crc16Update c b) ∧
  (∀ (bs : List Byte) (c c' : Half), c ≠ c' → crc16 c bs ≠ crc16 c' bs)

/-- R116 and R117, with the naturals of their pseudocode; `HEX2`, `HEX4` (R119, R120) spell the nibbles high first; the
round trip of R118, both ways. -/
def Obligations.NibbleCodecIsTheTable : Prop :=
  (∀ (s : State) (b : Byte), exec (.hex2nib b) s = .next { s with out := s.out ++ [.ret (
    if 0x30 ≤ b.toNat ∧ b.toNat ≤ 0x39 then .okNib true (BitVec.ofNat 4 (b.toNat - 0x30))
    else if 0x41 ≤ b.toNat ∧ b.toNat ≤ 0x46 then .okNib true (BitVec.ofNat 4 (b.toNat - 0x41 + 10))
    else if s.cfg.hexAcceptLower = true ∧ 0x61 ≤ b.toNat ∧ b.toNat ≤ 0x66 then
      .okNib true (BitVec.ofNat 4 (b.toNat - 0x61 + 10))
    else .okNib false 0)] }) ∧
  (∀ (s : State) (n : Nibble), exec (.nib2hex n) s = .next { s with out := s.out ++ [.ret (.byte (
    if n.toNat < 10 then BitVec.ofNat 8 (0x30 + n.toNat) else BitVec.ofNat 8 (0x41 + (n.toNat - 10))))] }) ∧
  (∀ v : Byte, hex2 v = [nib2hex (v.extractLsb' 4 4), nib2hex (v.extractLsb' 0 4)]) ∧
  (∀ v : Half, hex4 v = hex2 (v.extractLsb' 8 8) ++ hex2 (v.extractLsb' 0 8)) ∧
  (∀ (lower : Bool) (n : Nibble), hex2nib lower (nib2hex n) = some n) ∧
  (∀ (lower : Bool) (b : Byte) (n : Nibble), hex2nib lower b = some n → ¬(0x61 ≤ b.toNat ∧ b.toNat ≤ 0x66) →
    nib2hex n = b)

/-- R216 and R217: the borders of a glyph, trimmed only where it is a trimmable icon, and its trimmed width. -/
def Obligations.TrimKeepsTheColumnsBetweenTheBorders : Prop :=
  ∀ (s : State) (code : Byte), ∃ l r : Nat,
    exec (.trim code) s = .next { s with out := s.out ++ [.ret (.pair l r)] } ∧
    exec (.tw code) s = .next { s with out := s.out ++ [.ret (.num (r - l))] } ∧
    l ≤ r ∧ r ≤ (glyph s.cfg code).width ∧
    (if 127 < code.toNat ∧ (glyph s.cfg code).trimmable = true then
      (∀ j, j < (glyph s.cfg code).width → (j < l ∨ r ≤ j) → glyphCol s.cfg code j = 0) ∧
      (l < r → glyphCol s.cfg code l ≠ 0 ∧ glyphCol s.cfg code (r - 1) ≠ 0) ∧ (l = r → l = 0)
    else l = 0 ∧ r = (glyph s.cfg code).width)

/-- R161 with the predicates of R163 and R165, for every payload layout (D11). -/
def Obligations.ValidatorsOfTheCatalog : Prop :=
  ∀ (s : State) (p : Vector Byte 20), catalogLegal s.cfg = true →
    (∀ c : Cmd, c = .wrline ∨ c = .setbl ∨ c = .setlang →
      exec (.validate (cmdId s.cfg c) p) s = .next { s with out := s.out ++ [.ret (.flag true)] }) ∧
    exec (.validate (cmdId s.cfg .buzparam) p) s = .next { s with out := s.out ++ [.ret (.flag (
      let kind := p[s.cfg.buzTypeAt.val]
      let value := p[s.cfg.buzValueAt.val]
      if kind = s.cfg.buzFreq then decide (s.cfg.freqMin.toNat ≤ value.toNat ∧ value.toNat ≤ 0xC8)
      else if kind = s.cfg.buzDuty then decide (s.cfg.dutyMin.toNat ≤ value.toNat ∧ value.toNat ≤ s.cfg.dutyMax.toNat)
      else false))] } ∧
    exec (.validate (cmdId s.cfg .buzctrl) p) s = .next { s with out := s.out ++ [.ret (.flag (
      let action := p[s.cfg.ctrlActionAt.val]
      decide ((action = s.cfg.actOff ∨ action = s.cfg.actOn ∨ action = s.cfg.actBeep) ∧
        p[s.cfg.ctrlCyclesAt.val].toNat ≤ 63)))] }

/-! ### The request machine -/

/-- R125 with the front end of R126 and the CRC accumulation of R131: which rule a received byte selects, on which state. -/
def Obligations.RxByteSelectsItsRule : Prop :=
  ∀ (s : State) (b : Byte),
    let checked : State := if s.rxState = .vcrc then s
      else s.modSlot s.rxIdx fun sl => { sl with crcCalc := crc16Update sl.crcCalc b }
    (s.rxState = .vf → exec (.rxByte b) s =
      if b = 0x02 ∧ s.delim = false then exec .rxStx s
      else if b = 0x03 ∧ s.delim = true then exec .rxEtx s
      else exec .rxNoise s) ∧
    (s.rxState ≠ .vf → b = 0x02 ∨ b = 0x03 → exec (.rxByte b) s = exec (.rxDecodeError b) s) ∧
    (s.rxState ≠ .vf → b ≠ 0x02 → b ≠ 0x03 →
      (hex2nib s.cfg.hexAcceptLower b = none → exec (.rxByte b) s = exec (.rxDecodeError b) checked) ∧
      (∀ n, hex2nib s.cfg.hexAcceptLower b = some n →
        (s.rxState = .vpn → exec (.rxByte b) s = exec (.rxVpn n) checked) ∧
        (s.rxState = .vcmd → exec (.rxByte b) s = exec (.rxVcmd n) checked) ∧
        (s.rxState = .vpay → exec (.rxByte b) s = exec (.rxVpay n) checked) ∧
        (s.rxState = .vcrc → exec (.rxByte b) s = exec (.rxVcrc n) checked)))

/-- A wire symbol is the arrival of its byte (R87, R88, log 2), and completes in every state; a digit row carries its
value: as the first digit of a packet number it is held in `acc` and checksummed as the byte it is. -/
def Obligations.WireSymbolsAreReceived : Prop :=
  (∀ (i : Instr) (b : Byte) (s : State), i.wireByte = some b →
    ∃ t, exec i s = .next t ∧ exec (.rxByte b) s = .next t) ∧
  (∀ (i : Instr) (n : Nibble) (s : State), i.digitValue = some n → s.rxState = .vpn → s.nibCnt = 0 →
    i.wireByte = some (nib2hex n) ∧
    exec i s = .next
      { s.modSlot s.rxIdx fun sl => { sl with crcCalc := crc16Update sl.crcCalc (nib2hex n) } with
        acc := n.zeroExtend 8 <<< 4
        nibCnt := 1 })

/-- R127, R128 and the slot clear of R29: steering, the drop of a full ring, the fields of a cleared slot, and noise. -/
def Obligations.StxSteersAndClearsNoiseDoesNot : Prop :=
  (∀ s : State,
    let tgt : Fin 3 := if (s.slot s.rxIdx).ack = .notReady then s.rxIdx else s.rxIdx + 1
    let cleared : Slot :=
      { cmd := 0, err := false, pn := 0, payload := Vector.replicate 20 0, resp := Vector.replicate 2 0,
        crcRx := 0, crcCalc := s.cfg.crcInit, ack := .notReady }
    ((s.slot tgt).ack = .toBeSend ∨ (s.slot tgt).ack = .sending → exec .rxStx s = .next { s with delim := false }) ∧
    ((s.slot tgt).ack = .notReady ∨ (s.slot tgt).ack = .sent → exec .rxStx s = .next
      { s with
        slots := s.slots.set tgt.val cleared tgt.isLt
        rxIdx := tgt, delim := true, rxState := .vpn, nibCnt := 0, acc := 0 }) ∧
    (∀ i : Fin 3, exec (.clearSlot i) s = .next { s with slots := s.slots.set i.val cleared i.isLt })) ∧
  (∀ s : State, exec .rxNoise s = .next { s with delim := false })

/-- R129: dispatch where the slot has no error, the answer stored in `resp`, then the response armed. -/
def Obligations.ExpectedEtxDispatchesAndArms : Prop :=
  ∀ s : State,
    let sl := s.slot s.rxIdx
    let r := s.dispatch sl.cmd (sl.payload.toList.take (reqLen s.cfg sl.cmd))
    (sl.err = false → exec .rxEtx s = .next
      { (r.1.modSlot s.rxIdx fun x => { x with resp := overwrite x.resp 0 r.2 }).arm s.rxIdx with delim := false }) ∧
    (sl.err = true → exec .rxEtx s = .next { s.arm s.rxIdx with delim := false })

/-- R133 with the accumulation of R132. -/
def Obligations.PacketNumberField : Prop :=
  ∀ (s : State) (n : Nibble),
    (s.nibCnt = 0 → exec (.rxVpn n) s = .next { s with acc := n.zeroExtend 8 <<< 4, nibCnt := 1 }) ∧
    (s.nibCnt ≠ 0 → exec (.rxVpn n) s = .next
      { s.modSlot s.rxIdx fun sl => { sl with pn := s.acc ||| n.zeroExtend 8 } with nibCnt := 0, rxState := .vcmd })

/-- R135 with the choice of the next field (R137): an invalid id stores 0 and takes the error path. -/
def Obligations.CommandField : Prop :=
  ∀ (s : State) (n : Nibble),
    (s.nibCnt = 0 → exec (.rxVcmd n) s = .next { s with acc := n.zeroExtend 8 <<< 4, nibCnt := 1 }) ∧
    (s.nibCnt ≠ 0 →
      let v : Byte := s.acc ||| n.zeroExtend 8
      (v = 0 ∨ s.cfg.catalogSize ≤ v.toNat → exec (.rxVcmd n) s =
        exec (.rxErrorPath .validation) { s.modSlot s.rxIdx fun sl => { sl with cmd := 0 } with nibCnt := 0 }) ∧
      (v ≠ 0 → v.toNat < s.cfg.catalogSize → exec (.rxVcmd n) s =
        exec .rxFieldChoice { s.modSlot s.rxIdx fun sl => { sl with cmd := v } with nibCnt := 0 })) ∧
    (reqLen s.cfg (s.slot s.rxIdx).cmd = 0 → exec .rxFieldChoice s = .next
      { s.modSlot s.rxIdx fun sl => { sl with crcRx := 0 } with rxState := .vcrc, nibCnt := 0 }) ∧
    (reqLen s.cfg (s.slot s.rxIdx).cmd ≠ 0 → exec .rxFieldChoice s = .next
      { s with rxState := .vpay, nibCnt := 0, payCnt := 0 })

/-- R138: payload bytes stored in arrival order, the validator run once, at the last. (`pay_cnt` is below 20 in every
state a run reaches: `EventsKeepTheCountersInRange`, log 15.) -/
def Obligations.PayloadField : Prop :=
  ∀ (s : State) (n : Nibble),
    (s.nibCnt = 0 → exec (.rxVpay n) s = .next { s with acc := n.zeroExtend 8 <<< 4, nibCnt := 1 }) ∧
    (∀ k : Fin 20, s.nibCnt ≠ 0 → s.payCnt.toNat = k.val →
      let stored : State :=
        { s.modSlot s.rxIdx fun sl => { sl with payload := sl.payload.set k.val (s.acc ||| n.zeroExtend 8) k.isLt } with
          nibCnt := 0, payCnt := s.payCnt + 1 }
      let sl := stored.slot s.rxIdx
      (k.val + 1 ≠ reqLen s.cfg sl.cmd → exec (.rxVpay n) s = .next stored) ∧
      (k.val + 1 = reqLen s.cfg sl.cmd → validate s.cfg sl.cmd sl.payload = false →
        exec (.rxVpay n) s = exec (.rxErrorPath .validation) stored) ∧
      (k.val + 1 = reqLen s.cfg sl.cmd → validate s.cfg sl.cmd sl.payload = true → exec (.rxVpay n) s = .next
        { stored.modSlot s.rxIdx fun x => { x with crcRx := 0 } with rxState := .vcrc, nibCnt := 0 }))

/-- R140: four digits shifted in, most significant first, then the comparison of all 16 bits. -/
def Obligations.ChecksumField : Prop :=
  ∀ (s : State) (n : Nibble),
    let shifted : State :=
      { s.modSlot s.rxIdx fun sl => { sl with crcRx := (sl.crcRx <<< 4) ||| n.zeroExtend 16 } with nibCnt := s.nibCnt + 1 }
    let sl := shifted.slot s.rxIdx
    (s.nibCnt ≠ 3 → exec (.rxVcrc n) s = .next shifted) ∧
    (s.nibCnt = 3 → sl.crcRx ≠ sl.crcCalc → exec (.rxVcrc n) s = exec (.rxErrorPath .checksum) shifted) ∧
    (s.nibCnt = 3 → sl.crcRx = sl.crcCalc → exec (.rxVcrc n) s = .next { shifted with rxState := .vf })

/-- The row `RX_FIELD_DIGIT`: R126 with R131 and R132 in every state and for every byte; a byte that is no digit is
checksummed first in the states that checksum. Its result goes to the caller (the model's choice, log 2). -/
def Obligations.FieldFrontEnd : Prop :=
  ∀ (s : State) (b : Byte),
    (b = 0x02 ∨ b = 0x03 → exec (.rxFieldDigit b) s = exec (.rxDecodeError b) s) ∧
    (∀ n, b ≠ 0x02 → b ≠ 0x03 → hex2nib s.cfg.hexAcceptLower b = some n →
      let checked := s.modSlot s.rxIdx fun sl => { sl with crcCalc := crc16Update sl.crcCalc b }
      (s.rxState = .vpn ∨ s.rxState = .vcmd ∨ s.rxState = .vpay →
        (s.nibCnt = 0 → exec (.rxFieldDigit b) s = .next
          { checked with acc := n.zeroExtend 8 <<< 4, nibCnt := 1, out := s.out ++ [.ret (.optByte none)] }) ∧
        (s.nibCnt ≠ 0 → exec (.rxFieldDigit b) s = .next
          { checked with nibCnt := 0, out := s.out ++ [.ret (.optByte (some (s.acc ||| n.zeroExtend 8)))] })) ∧
      (s.rxState = .vf ∨ s.rxState = .vcrc → exec (.rxFieldDigit b) s = .next
        { s with out := s.out ++ [.ret (.nib n)] })) ∧
    (b ≠ 0x02 → b ≠ 0x03 → hex2nib s.cfg.hexAcceptLower b = none →
      let checked := s.modSlot s.rxIdx fun sl => { sl with crcCalc := crc16Update sl.crcCalc b }
      (s.rxState = .vpn ∨ s.rxState = .vcmd ∨ s.rxState = .vpay →
        exec (.rxFieldDigit b) s = exec (.rxDecodeError b) checked) ∧
      (s.rxState = .vf ∨ s.rxState = .vcrc → exec (.rxFieldDigit b) s = exec (.rxDecodeError b) s))

/-- The pseudocode of R275, the same whatever the class (R271) and whatever the byte of a decode error (R130). That the
`RX_BYTE` event ends there is said where a rule raises: `RxByteSelectsItsRule`, `CommandField`, `PayloadField` and
`ChecksumField`. -/
def Obligations.ErrorPathSetsErrAndArms : Prop :=
  ∀ (s : State) (cls : ErrClass) (b : Byte),
    let armed := (s.modSlot s.rxIdx fun sl => { sl with err := true }).arm s.rxIdx
    exec (.rxErrorPath cls) s = .next { armed with rxState := .vf, delim := false, nibCnt := 0 } ∧
    exec (.rxDecodeError b) s = .next { armed with rxState := .vf, delim := false, nibCnt := 0 }

/-- R276 (e) and the end of R275: the error path writes no framebuffer byte, line buffer, task or drain register and calls
no dispatcher; `acc`, `pay_cnt` and what the slot decoded stay. -/
def Obligations.ErrorPathLeavesTheRest : Prop :=
  ∀ (s : State) (cls : ErrClass), ∃ t, exec (.rxErrorPath cls) s = .next t ∧
    t = { s with
      slots := t.slots, rxState := .vf, delim := false, nibCnt := 0
      txIdx := t.txIdx, txCursor := t.txCursor, txBuf := t.txBuf, txLen := t.txLen, txBusy := t.txBusy, out := t.out } ∧
    t.slot s.rxIdx = { s.slot s.rxIdx with err := true, ack := (t.slot s.rxIdx).ack } ∧
    (t.slot s.rxIdx).ack ≠ .notReady ∧
    (∀ j, j ≠ s.rxIdx → t.slot j = { s.slot j with ack := (t.slot j).ack }) ∧
    t.out.filter Output.isDispatch = s.out.filter Output.isDispatch ∧
    (t.out = s.out ∨ ∃ b, t.out = s.out ++ [.txPut b])

/-! ### The wire commands -/

/-- R155, R85, R129: in a state that can take a frame, the request frame of any command with a valid payload and the right
CRC causes exactly the dispatch of its id and payload and the arming of its slot. The `NUL` pad changes nothing. -/
def Obligations.GoodFrameIsDispatchedAndArmed : Prop :=
  ∀ (i : Instr) (c : Cmd) (pn : Byte) (p : List Byte) (crc : Half) (s : State),
    i.request = some (c, pn, p, crc) → catalogLegal s.cfg = true → s.accepts → requestValid s.cfg c p →
    crc = crc16 s.cfg.crcInit (frameBody pn (cmdId s.cfg c) p) →
      let u := s.received pn (cmdId s.cfg c) p crc
      let r := u.dispatch (cmdId s.cfg c) p
      exec i s = .next
        { (r.1.modSlot s.rxTarget fun sl => { sl with resp := overwrite sl.resp 0 r.2 }).arm s.rxTarget with delim := false }

/-- R140, R155, R270: the same frame with a CRC field that differs takes the error path of class `CHECKSUM`, and no
dispatch is made. -/
def Obligations.WrongCrcIsAnsweredWithErr : Prop :=
  ∀ (i : Instr) (c : Cmd) (pn : Byte) (p : List Byte) (crc : Half) (s : State),
    i.request = some (c, pn, p, crc) → catalogLegal s.cfg = true → s.accepts → requestValid s.cfg c p →
    crc ≠ crc16 s.cfg.crcInit (frameBody pn (cmdId s.cfg c) p) →
      exec i s = exec (.rxErrorPath .checksum) (s.received pn (cmdId s.cfg c) p crc)

/-- R138, R163, R165, R269: a payload its validator rejects takes the error path of class `VALIDATION` at its last byte;
the CRC field is never looked at and no dispatch is made. -/
def Obligations.RejectedPayloadIsAnsweredWithErr : Prop :=
  ∀ (i : Instr) (c : Cmd) (pn : Byte) (p : List Byte) (crc : Half) (s : State),
    i.request = some (c, pn, p, crc) → catalogLegal s.cfg = true → s.accepts → ¬requestValid s.cfg c p →
      exec i s = exec (.rxErrorPath .validation) (s.parsed pn (cmdId s.cfg c) p)

/-- R145, R276 (d): a received byte calls the dispatcher at most once, and only as the expected `ETX` of a frame without
error. -/
def Obligations.DispatchOnlyAtAGoodEtx : Prop :=
  ∀ (s : State) (b : Byte), ∃ t, exec (.rxByte b) s = .next t ∧
    (s.rxState = .vf ∧ b = 0x03 ∧ s.delim = true ∧ (s.slot s.rxIdx).err = false →
      t.out.filter Output.isDispatch = s.out.filter Output.isDispatch ++
        [.dispatch (s.slot s.rxIdx).cmd
          ((s.slot s.rxIdx).payload.toList.take (reqLen s.cfg (s.slot s.rxIdx).cmd))]) ∧
    (¬(s.rxState = .vf ∧ b = 0x03 ∧ s.delim = true ∧ (s.slot s.rxIdx).err = false) →
      t.out.filter Output.isDispatch = s.out.filter Output.isDispatch)

/-- R155 end to end: with the ring as H1 leaves it and the transmitter idle, a good frame of any command, answered by a
dispatcher that draws nothing, puts out one dispatch and then, one byte for each `TX_DONE`, exactly the response frame of
R86 with the dispatcher's bytes and no error; then the slot is `SENT`. -/
def Obligations.RequestIsAnsweredOnce : Prop :=
  ∀ (i : Instr) (c : Cmd) (pn : Byte) (p : List Byte) (crc : Half) (resp : Vector Byte 2) (more : List Reply) (s : State),
    i.request = some (c, pn, p, crc) → catalogLegal s.cfg = true → s.accepts → requestValid s.cfg c p →
    crc = crc16 s.cfg.crcInit (frameBody pn (cmdId s.cfg c) p) →
    s.ringInv → s.txBusy = false → s.replies = { calls := [], resp := resp } :: more →
      ∃ t u, exec i s = .next t ∧ execTimes .txDone (10 + 2 * c.respLen) t = .next u ∧
        u.out = s.out ++ [.dispatch (cmdId s.cfg c) p] ++
          (responseFrame s.cfg pn false (cmdId s.cfg c) (resp.toList.take c.respLen)).map Output.txPut ∧
        (u.slot s.rxTarget).ack = .sent

/-! ### The dispatcher port -/

/-- R171: what the reference binding does with each command; R170: an answer of the environment's dispatcher is its
rendering calls in order and `RESP_LEN[id]` bytes. The queue of answers is the model's choice (log 8), and so are the free
byte of read-keys (log 6) and what the row does with a payload of another length than `REQ_LEN[id]` (log 18). -/
def Obligations.DispatcherPort : Prop :=
  (∀ (s : State) (id : Byte) (p : List Byte) (r : Reply) (rest : List Reply), s.replies = r :: rest →
    exec (.dispatch id p) s = .next
      ((r.calls.foldl State.runCall { s with replies := rest, out := s.out ++ [.dispatch id p] }).ret
        (.bytes (r.resp.toList.take (respLen s.cfg id))))) ∧
  (∀ (s : State) (p : List Byte), catalogLegal s.cfg = true → s.replies = [] →
    let d (c : Cmd) : State := { s with out := s.out ++ [.dispatch (cmdId s.cfg c) p] }
    let run (c : Cmd) := exec (.dispatch (cmdId s.cfg c) p) s
    run .rdkeys = .next (({ d .rdkeys with keyReads := s.keyReads + 1 } : State).ret (.bytes [Config.keyByte s.keyReads])) ∧
    (p.length = 20 → run .wrline = .next (((d .wrline).putLine p.tail (p.headD 0).toNat).1.ret (.bytes []))) ∧
    run .clrdsp = .next ((d .clrdsp).fbClear.ret (.bytes [])) ∧
    run .getver = .next ((d .getver).ret (.bytes [s.cfg.version.extractLsb' 8 8, s.cfg.version.extractLsb' 0 8])) ∧
    (p.length = 2 → run .buzparam = .next ((d .buzparam).ret (.bytes p))) ∧
    run .setbl = .next ((d .setbl).ret (.bytes [])) ∧
    run .setlang = .next ((d .setlang).ret (.bytes [])) ∧
    run .buzctrl = .next ((d .buzctrl).ret (.bytes [])))

/-! ### The response machine -/

/-- R185: `TX_FILL` stores packet number, status byte, payload, their CRC, `ETX` and `NUL`, and the length; the rest of the
buffer and of the state stay. -/
def Obligations.TxFillFormatsTheResponse : Prop :=
  ∀ (s : State) (i : Fin 3),
    let sl := s.slot i
    let m := respLen s.cfg sl.cmd
    let cs : Byte := (if sl.err then s.cfg.errMask else 0) ||| sl.cmd
    let body := hex2 sl.pn ++ hex2 cs ++ (sl.resp.toList.take m).flatMap hex2
    ∃ t, exec (.txFill i) s = .next t ∧ t = { s with txBuf := t.txBuf, txLen := BitVec.ofNat 4 (10 + 2 * m) } ∧
      t.txBuf.toList = body ++ hex4 (crc16 s.cfg.crcInit body) ++ [0x03, 0x00] ++ s.txBuf.toList.drop (10 + 2 * m)

/-- R190, its four parts: nothing to send, the switch to the next slot, the first byte, and streaming with the lazy
formatting and the completion. The byte goes to the caller (log 2). (The cursor of a `SENDING` slot is 1 to 14 in every
state a run reaches: `EventsKeepTheCountersInRange`, log 15.) -/
def Obligations.TxNextChoosesTheByte : Prop :=
  ∀ s : State,
    let a := (s.slot s.txIdx).ack
    let nx := s.txIdx + 1
    let start (i : Fin 3) : State :=
      { s.modSlot i fun sl => { sl with ack := .sending } with
        txIdx := i, txCursor := 1, out := s.out ++ [.ret (.optByte (some 0x02))] }
    (a = .notReady ∨ a = .sent → (s.slot nx).ack ≠ .toBeSend →
      exec .txNext s = .next { s with out := s.out ++ [.ret (.optByte none)] }) ∧
    (a = .notReady ∨ a = .sent → (s.slot nx).ack = .toBeSend → exec .txNext s = .next (start nx)) ∧
    (a = .toBeSend → exec .txNext s = .next (start s.txIdx)) ∧
    (a = .sending →
      let f : State := if s.txCursor = 1 then s.txFill s.txIdx else s
      let f' : State := { f with txCursor := s.txCursor + 1 }
      ∀ k : Fin 14, s.txCursor.toNat = k.val + 1 → exec .txNext s = .next
        ((if k.val + 1 = f.txLen.toNat then f'.modSlot s.txIdx fun sl => { sl with ack := .sent } else f').ret
          (.optByte (some f.txBuf[k.val]))))

/-- R181, R188, R189: arming kicks an idle transmitter, `TX_DONE` frees it and pumps, and the pump puts out the byte
`TX_NEXT` gives, or none. The row `TX_PUT` run alone is that hand-over: the model's choice (log 2), since in the block only the
pump makes it. -/
def Obligations.ArmingAndPumping : Prop :=
  ∀ s : State,
    (∀ i : Fin 3,
      let armed := s.modSlot i fun sl => { sl with ack := .toBeSend }
      (s.txBusy = true → exec (.arm i) s = .next armed) ∧ (s.txBusy = false → exec (.arm i) s = exec .txPump armed)) ∧
    exec .txDone s = exec .txPump { s with txBusy := false } ∧
    (s.txNext.2 = none → exec .txPump s = .next { s.txNext.1 with txBusy := false }) ∧
    (∀ b, s.txNext.2 = some b → exec .txPump s = .next
      { s.txNext.1 with txBusy := true, out := s.txNext.1.out ++ [.txPut b] }) ∧
    (∀ b, exec (.txPut b) s = .next { s with txBusy := true, out := s.out ++ [.txPut b] })

/-- R187, R183, R184: from an armed slot under `tx_idx`, `11 + 2m` completions put out exactly the response frame of that
slot, one byte each, and the slot is `SENT` with the last. -/
def Obligations.WholeResponseIsStreamed : Prop :=
  ∀ s : State, (s.slot s.txIdx).ack = .toBeSend →
    let sl := s.slot s.txIdx
    let m := respLen s.cfg sl.cmd
    (∃ t, execTimes .txDone (10 + 2 * m) s = .next t ∧ (t.slot s.txIdx).ack = .sending) ∧
    ∃ t, execTimes .txDone (11 + 2 * m) s = .next t ∧
      t.out = s.out ++ (responseFrame s.cfg sl.pn sl.err sl.cmd (sl.resp.toList.take m)).map Output.txPut ∧
      t.txBusy = true ∧ t.txIdx = s.txIdx ∧ t.slot s.txIdx = { sl with ack := .sent } ∧
      (∀ j, j ≠ s.txIdx → t.slot j = s.slot j)

/-! ### Value rows and ports -/

/-- The rows with a value of their own (the model's choice of what running them is, log 2): the two digits of the status byte
(R86, R90), handed to the caller, the controller words and commands (R100, R252) and the scheduler request (R44). -/
def Obligations.ValueRowsAndPorts : Prop :=
  (∀ (s : State) (id : Nibble), exec (.csNoerr id) s = .next
    { s with out := s.out ++ [.ret (.bytes [0x30, nib2hex id])] }) ∧
  (∀ (s : State) (id : Nibble), s.cfg.errMask = 0x80 → exec (.csErr id) s = .next
    { s with out := s.out ++ [.ret (.bytes [0x38, nib2hex id])] }) ∧
  (∀ (s : State) (id : Nibble),
    let cs := s.cfg.errMask ||| id.zeroExtend 8
    exec (.csErr id) s = .next
      { s with out := s.out ++ [.ret (.bytes [nib2hex (cs.extractLsb' 4 4), nib2hex (cs.extractLsb' 0 4)])] }) ∧
  (∀ (s : State) (b : Byte), exec (.ctrlData b) s = .next
    { s with out := s.out ++ [.ctrlData (BitVec.ofBool s.cfg.dataSelect ++ b)] }) ∧
  (∀ (s : State) (p : Fin 6), exec (.pageSelect p) s = .next { s with out := s.out ++ [.ctrlCmd (.pageSelect p)] }) ∧
  (∀ (s : State) (c : Byte), exec (.columnAddress c) s = .next { s with out := s.out ++ [.ctrlCmd (.columnAddress c)] }) ∧
  (∀ s : State, exec .displayOn s = .next { s with out := s.out ++ [.ctrlCmd .displayOn] }) ∧
  (∀ s : State, exec .schedArm s = .next { s with schedArmed := true, out := s.out ++ [.schedArm] })

/-! ### The framebuffer -/

/-- R201, R203, R62, R65: the pixels `WRITE_BITS` sets, and every other pixel as it was; nothing but the framebuffer and the
versions changes (R205). -/
def Obligations.WriteBitsSetsItsPixels : Prop :=
  ∀ (s : State) (value start width column : Nat), s.fbInv →
    ∃ t, exec (.writeBits value start width column) s = .next t ∧ t = { s with fb := t.fb, ver := t.ver } ∧ t.fbInv ∧
      ∀ g c : Nat, g < 48 → c < 128 →
        pixel t.fb g c =
          if c = column ∧ start ≤ g ∧ g < start + width then value.testBit (g - start) else pixel s.fb g c

/-- R207: the framebuffer `WRITE_BITS` leaves is the one the single-bit writes leave. -/
def Obligations.WriteBitsIsItsSingleBits : Prop :=
  ∀ (s : State) (value start width column : Nat), s.fbInv →
    ∃ t u, exec (.writeBits value start width column) s = .next t ∧
      (List.range width).foldlM (fun (x : State) i =>
        nextOf (exec (.writeBits ((value.testBit i).toNat) (start + i) 1 column) x)) s = some u ∧
      t.fb = u.fb

/-- R204, R205: each page written is raised once, modulo `2^VER_BITS`, and no other. -/
def Obligations.WriteBitsRaisesEachWrittenPageOnce : Prop :=
  ∀ (s : State) (value start width column : Nat),
    ∃ t, exec (.writeBits value start width column) s = .next t ∧ t = { s with fb := t.fb, ver := t.ver } ∧
      ∀ p : Fin 6,
        ((column < 128 ∧ ∃ g, start ≤ g ∧ g < start + width ∧ g / 8 = p.val) →
          t.ver[p.val] = (s.ver[p.val] + 1) % 2 ^ s.cfg.verBits) ∧
        (¬(column < 128 ∧ ∃ g, start ≤ g ∧ g < start + width ∧ g / 8 = p.val) → t.ver[p.val] = s.ver[p.val])

/-- R218, R219: `STUFF_CHAR` returns the trimmed width, draws nothing where the glyph does not fit, and otherwise draws its
columns, hidden where it blinks and `hide` is 1, all exclusive-ored with `inv`; `BLANK_COL` draws `inv`. Each column drawn
raises each page of its rows once (R204). -/
def Obligations.GlyphAndBlankColumns : Prop :=
  ∀ (s : State) (row0 h inv : Nat), s.fbInv →
    let touches (p : Fin 6) : Prop := ∃ g, row0 ≤ g ∧ g < row0 + h ∧ g / 8 = p.val
    (∀ (hide : Bool) (code : Byte) (col colHi : Nat),
      let lr := trimGlyph s.cfg code
      ∃ t, exec (.stuffChar row0 h inv hide code col colHi) s = .next t ∧
        t = { s with fb := t.fb, ver := t.ver, out := s.out ++ [.ret (.num (lr.2 - lr.1))] } ∧
        (colHi < col + (lr.2 - lr.1) → t.fb = s.fb ∧ t.ver = s.ver) ∧
        (col + (lr.2 - lr.1) ≤ colHi → ∀ g c : Nat, g < 48 → c < 128 →
          pixel t.fb g c =
            if col ≤ c ∧ c < col + (lr.2 - lr.1) ∧ row0 ≤ g ∧ g < row0 + h then
              ((!((glyph s.cfg code).isBlinking && hide) && (glyphCol s.cfg code (lr.1 + (c - col))).testBit (g - row0))
                ^^ inv.testBit (g - row0))
            else pixel s.fb g c) ∧
        (col + (lr.2 - lr.1) ≤ colHi → ∀ p : Fin 6,
          let n := (List.range (lr.2 - lr.1)).countP fun j => decide (col + j < 128)
          (touches p ∧ 0 < n → t.ver[p.val] = (s.ver[p.val] + n) % 2 ^ s.cfg.verBits) ∧
          (¬(touches p ∧ 0 < n) → t.ver[p.val] = s.ver[p.val]))) ∧
    (∀ col : Nat, ∃ t, exec (.blankCol row0 h inv col) s = .next t ∧ t = { s with fb := t.fb, ver := t.ver } ∧
      (∀ g c : Nat, g < 48 → c < 128 →
        pixel t.fb g c = if c = col ∧ row0 ≤ g ∧ g < row0 + h then inv.testBit (g - row0) else pixel s.fb g c) ∧
      ∀ p : Fin 6,
        (col < 128 ∧ touches p → t.ver[p.val] = (s.ver[p.val] + 1) % 2 ^ s.cfg.verBits) ∧
        (¬(col < 128 ∧ touches p) → t.ver[p.val] = s.ver[p.val]))

/-- R222 to R226, R228: a render shows in every column of its line the glyph that stands there, the left icon, the right
icon after its gap, or a glyph of the text that fits, left, right or centred, and blank elsewhere, hidden and inverted as the
phase and the flag say, whatever stood there; it raises each of the line's pages 128 times and no other page (R220), and
writes no pixel outside its line. -/
def Obligations.RenderReplacesItsLineAlone : Prop :=
  ∀ (s : State) (line : Fin 4) (content : Vector Byte 20) (isInternal : Bool),
    s.fbInv → legalLayout s.layout = true → glyphsLegal s.cfg = true →
    ∃ t, exec (.renderLine line.val content isInternal) s = .next t ∧
      t = { s with fb := t.fb, ver := t.ver, task := t.task, schedArmed := t.schedArmed, out := t.out } ∧
      (∀ g c : Nat, g < 48 → c < 128 → lineHas s.layout line g →
        pixel t.fb g c =
          ((placedBits s.cfg s.blinkPhase (linePlaces s.cfg content) c).testBit (g - lineRow0 s.layout line)
            ^^ content[1].getLsbD s.cfg.fmtInv.val)) ∧
      (∀ g c : Nat, g < 48 → c < 128 → ¬lineHas s.layout line g → pixel t.fb g c = pixel s.fb g c) ∧
      (∀ s' : State, s'.fbInv → s'.cfg = s.cfg → s'.layout = s.layout → s'.blinkPhase = s.blinkPhase →
        ∃ t', exec (.renderLine line.val content isInternal) s' = .next t' ∧
          ∀ g c : Nat, g < 48 → c < 128 → lineHas s.layout line g → pixel t'.fb g c = pixel t.fb g c) ∧
      (∀ p : Fin 6,
        (pageOf s.layout line p.val → t.ver[p.val] = (s.ver[p.val] + 128) % 2 ^ s.cfg.verBits) ∧
        (¬pageOf s.layout line p.val → t.ver[p.val] = s.ver[p.val]))

/-- R229, R230, R231 over the glyph the task follows, the last drawn of those that blink and have some width (R227); a line
of 4 or more is refused (R221). That an internal render removes the task at `INTERNAL_KEEPS_TASK` false is the model's choice
(log 22). -/
def Obligations.RenderKeepsTheBlinkTask : Prop :=
  (∀ (s : State) (line : Nat) (content : Vector Byte 20) (isInternal : Bool), 4 ≤ line →
    exec (.renderLine line content isInternal) s = .refused (.lineOutOfDomain line)) ∧
  (∀ (s : State) (line : Fin 4) (content : Vector Byte 20) (isInternal : Bool),
    let x := s.lineCtx line content[1]
    ∃ t, exec (.renderLine line.val content isInternal) s = .next t ∧
      (∀ k : Fin 4, k ≠ line → t.task[k.val] = s.task[k.val]) ∧
      match recordedGlyph s.cfg content with
      | none => t.task[line.val] = { s.task[line.val] with live := false } ∧ t.schedArmed = s.schedArmed ∧ t.out = s.out
      | some r =>
        (isInternal = false → t.task[line.val] =
            { live := true, code := r.code, col := BitVec.ofNat 8 r.col, row0 := BitVec.ofNat 6 x.row0
              h := BitVec.ofNat 6 x.h, inv := BitVec.ofNat 48 x.inv, colHi := BitVec.ofNat 8 r.colHi
              hide := s.blinkPhase } ∧
          t.schedArmed = true ∧ t.out = s.out ++ [.schedArm]) ∧
        (isInternal = true → s.cfg.internalKeepsTask = true →
          t.task[line.val] = s.task[line.val] ∧ t.schedArmed = s.schedArmed ∧ t.out = s.out) ∧
        (isInternal = true → s.cfg.internalKeepsTask = false →
          t.task[line.val] = { s.task[line.val] with live := false } ∧ t.schedArmed = s.schedArmed ∧ t.out = s.out))

/-- R232: rejected calls change nothing; a cache hit changes nothing; a miss writes the cache, then renders. R233: the same
line content twice changes the framebuffer at most once. -/
def Obligations.PutLineRejectsHitsOrRenders : Prop :=
  ∀ (s : State) (text : List Byte) (line : Nat),
    (4 ≤ line ∨ 19 < text.length → exec (.putLine text line) s = .next { s with out := s.out ++ [.ret (.flag false)] }) ∧
    (∀ l : Fin 4, line = l.val → text.length ≤ 19 → ∃ content : Vector Byte 20,
      content.toList = text ++ List.replicate (20 - text.length) 0 ∧
      (s.cacheValid[l.val] = true ∧ content = s.linebuf[l.val] →
        exec (.putLine text line) s = .next { s with out := s.out ++ [.ret (.flag true)] }) ∧
      (¬(s.cacheValid[l.val] = true ∧ content = s.linebuf[l.val]) → ∃ t,
        exec (.renderLine line content false)
          { s with
            linebuf := s.linebuf.set l.val content l.isLt
            cacheValid := s.cacheValid.set l.val true l.isLt } = .next t ∧
        exec (.putLine text line) s = .next { t with out := t.out ++ [.ret (.flag true)] } ∧
        exec (.putLine text line) { t with out := t.out ++ [.ret (.flag true)] } =
          .next { t with out := t.out ++ [.ret (.flag true), .ret (.flag true)] }))

/-- A format row is `PUT_LINE` of its line with its flag set in the format byte, whatever the other flags (R97, R98; the
model's choice of what running it is, log 2): it succeeds on a line below 4 and is rejected on any other (R232). -/
def Obligations.FormatRowsPutALine : Prop :=
  ∀ (i : Instr) (s : State) (pos : Fin 8) (f line icon : Byte) (codes : Vector Byte 17),
    i.format s.cfg = some (pos, f, line, icon, codes) →
      ∃ g : Byte, (∀ k : Fin 8, g.getLsbD k.val = (f.getLsbD k.val || decide (k = pos))) ∧
        exec i s = exec (.putLine (icon :: g :: codes.toList) line.toNat) s ∧
        (∀ l : Fin 4, line.toNat = l.val → ∃ t, exec i s = .next t ∧ t.out.getLast? = some (.ret (.flag true)) ∧
          t.cacheValid[l.val] = true ∧
          t.linebuf[l.val].toList = icon :: g :: (codes.toList ++ [0])) ∧
        (4 ≤ line.toNat → exec i s = .next { s with out := s.out ++ [.ret (.flag false)] })

/-- R97, R222: setting `INV` complements every pixel of the line. -/
def Obligations.InversionComplementsTheLine : Prop :=
  ∀ (s : State) (line : Fin 4) (content : Vector Byte 20) (isInternal : Bool),
    s.fbInv → legalLayout s.layout = true → glyphsLegal s.cfg = true →
    s.cfg.fmtInv ≠ s.cfg.fmtAl → s.cfg.fmtInv ≠ s.cfg.fmtAr → content[1].getLsbD s.cfg.fmtInv.val = false →
    ∃ t u, exec (.renderLine line.val content isInternal) s = .next t ∧
      exec (.renderLine line.val (content.set 1 (fmtWith content[1] s.cfg.fmtInv)) isInternal) s = .next u ∧
      ∀ g c : Nat, g < 48 → c < 128 → lineHas s.layout line g → pixel u.fb g c = !pixel t.fb g c

/-- R97: `BLINK` has no effect on rendering; `AL` selects left whatever `AR`; the reserved bits are ignored: two contents
whose format bytes agree on `INV`, on `AL` and, where `AL` is 0, on `AR`, render alike. -/
def Obligations.OnlyThreeFlagsMatter : Prop :=
  ∀ (s : State) (line : Fin 4) (content : Vector Byte 20) (f : Byte) (isInternal : Bool),
    f.getLsbD s.cfg.fmtInv.val = content[1].getLsbD s.cfg.fmtInv.val →
    f.getLsbD s.cfg.fmtAl.val = content[1].getLsbD s.cfg.fmtAl.val →
    (f.getLsbD s.cfg.fmtAl.val = false → f.getLsbD s.cfg.fmtAr.val = content[1].getLsbD s.cfg.fmtAr.val) →
    ∃ t, exec (.renderLine line.val content isInternal) s = .next t ∧
      exec (.renderLine line.val (content.set 1 f) isInternal) s = .next t

/-- R234, R235, R236, R237: `PUT_QR` with an offset above 83 changes nothing and returns 0; otherwise it replaces 6 × 45
bytes with the bitmap exclusive-or `contrast`, raises each page once, and touches nothing else. -/
def Obligations.PutQrReplacesItsBytes : Prop :=
  ∀ (s : State) (version offset : Nat) (contrast : Byte),
    (128 < offset + 45 → exec (.putQr version offset contrast) s = .next { s with out := s.out ++ [.ret (.flag false)] }) ∧
    (offset + 45 ≤ 128 → s.fbInv → ∃ t, exec (.putQr version offset contrast) s = .next t ∧
      t = { s with fb := t.fb, ver := t.ver, out := s.out ++ [.ret (.flag true)] } ∧
      (∀ p : Fin 6, t.ver[p.val] = (s.ver[p.val] + 1) % 2 ^ s.cfg.verBits) ∧
      (∀ (p : Fin 6) (v : Fin 5) (k : Fin 45), v.val + 3 = (if 3 ≤ version ∧ version ≤ 7 then version else 4) →
        memRead t.fb p.val (offset + k.val) = s.cfg.qr[v.val][p.val][k.val] ^^^ contrast) ∧
      (∀ p c : Nat, p < 6 → c < 128 → (c < offset ∨ offset + 45 ≤ c) → memRead t.fb p c = memRead s.fb p c))

/-- R238: `FB_CLEAR` zeroes the framebuffer and the line buffers, raises every page once, invalidates the caches, removes
the tasks, and touches nothing else. -/
def Obligations.FbClearClears : Prop :=
  ∀ s : State, s.fbInv → ∃ t, exec .fbClear s = .next t ∧
    t = { s with
      fb := [], ver := t.ver, linebuf := Vector.replicate 4 (Vector.replicate 20 0)
      cacheValid := Vector.replicate 4 false, task := t.task } ∧
    (∀ p : Fin 6, t.ver[p.val] = (s.ver[p.val] + 1) % 2 ^ s.cfg.verBits) ∧
    (∀ line : Fin 4, t.task[line.val] = { s.task[line.val] with live := false })

/-- R240: a tick toggles the phase and the `hide` of every live task and redraws those glyphs from their snapshots, line
after line; with no live task only the phase changes. `TICK` and `BLINK_TICK` are one operation. -/
def Obligations.TickTogglesAndRedraws : Prop :=
  ∀ s : State, ∃ t, exec .tick s = .next t ∧ exec .blinkTick s = .next t ∧
    t = { s with blinkPhase := !s.blinkPhase, task := t.task, fb := t.fb, ver := t.ver } ∧
    (∀ line : Fin 4, t.task[line.val] =
      if s.task[line.val].live then { s.task[line.val] with hide := !s.task[line.val].hide } else s.task[line.val]) ∧
    ((∀ line : Fin 4, s.task[line.val].live = false) → t = { s with blinkPhase := !s.blinkPhase }) ∧
    ∃ u, (List.finRange 4).foldlM (fun (x : State) line =>
        let k := s.task[line.val]
        if k.live then
          nextOf (exec (.stuffChar k.row0.toNat k.h.toNat k.inv.toNat (!k.hide) k.code k.col.toNat k.colHi.toNat) x)
        else some x) s = some u ∧
      t.fb = u.fb ∧ t.ver = u.ver

/-! ### The drain -/

/-- R257, in its three cases: a clean page is passed over, a dirty one started, an open one continued; column 127
completes the page. The result goes to the caller (log 2). -/
def Obligations.DrainStepIsItsPseudocode : Prop :=
  ∀ s : State,
    let p := if s.drainCol = 0 then s.drainPage + 1 else s.drainPage
    let started : List Output :=
      if s.drainCol = 0 then [.ctrlCmd (.pageSelect p), .ctrlCmd (.columnAddress 0)] else []
    let word : Output := .ctrlData (BitVec.ofBool s.cfg.dataSelect ++ memRead s.fb p.val s.drainCol.val)
    (s.drainCol = 0 → s.ver[p.val] = s.sent[p.val] →
      exec .drainStep s = .next { s with drainPage := p, out := s.out ++ [.ret (.flag false)] }) ∧
    (s.drainCol ≠ 0 ∨ s.ver[p.val] ≠ s.sent[p.val] →
      (s.drainCol ≠ 127 → exec .drainStep s = .next
        { s with
          drainPage := p, drainCol := s.drainCol + 1
          out := s.out ++ started ++ [word] ++ [.ret (.flag false)] }) ∧
      (s.drainCol = 127 → exec .drainStep s = .next
        { s with
          drainPage := p, drainCol := 0, sent := s.sent.set p.val s.ver[p.val] p.isLt
          out := s.out ++ started ++ [word, .ctrlCmd .displayOn] ++ [.ret (.flag true)] }))

/-- R258, R259: between pages, with some page dirty, the next dirty page in round-robin order is flushed whole in at most 5
clean calls and then 128: the controller gets exactly its page, and it is clean. -/
def Obligations.FlushSendsTheNextDirtyPage : Prop :=
  ∀ (s : State) (k : Fin 6), s.drainCol = 0 →
    let p : Fin 6 := s.drainPage + 1 + k
    s.ver[p.val] ≠ s.sent[p.val] →
    (∀ j : Fin 6, j < k → s.ver[(s.drainPage + 1 + j).val] = s.sent[(s.drainPage + 1 + j).val]) →
      ∃ t, execTimes .drainStep (k.val + 128) s = .next t ∧
        t = { s with drainPage := p, sent := s.sent.set p.val s.ver[p.val] p.isLt, out := t.out } ∧
        t.out.filter Output.isController = s.out.filter Output.isController ++ pageOutput s.cfg s.fb p ∧
        t.out.getLast? = some (.ret (.flag true)) ∧
        (t.out.drop s.out.length).count (.ret (.flag true)) = 1

/-! ### Totality -/

/-- R265, R274: every instruction completes in every state, but a `RENDER_LINE` outside its domain (R221). -/
def Obligations.EveryRowCompletes : Prop :=
  ∀ (i : Instr) (s : State), (∀ line content isInternal, i = .renderLine line content isInternal → line < 4) →
    ∃ t, exec i s = .next t
end

