-- ==== Sys2Proof/Laws/State.lean ====
section
/-! SUPPORT. What every field of the state is after each of the machine's small updates: one lemma a field, true by
unfolding, so that no later proof unfolds a record update. -/

namespace Sys2Proof.Machine

/-! ### The slot accessor -/

@[simp] theorem State.slot_modSlot_same (s : State) (i : Fin 3) (f : Slot → Slot) :
    (s.modSlot i f).slot i = f (s.slot i) := by
  simp [State.slot, State.modSlot]

theorem State.slot_modSlot_other (s : State) (i j : Fin 3) (f : Slot → Slot) (h : j ≠ i) :
    (s.modSlot i f).slot j = s.slot j := by
  have : i.val ≠ j.val := fun e => h (Fin.ext e.symm)
  simp [State.slot, State.modSlot, this]

theorem State.slot_modSlot (s : State) (i j : Fin 3) (f : Slot → Slot) :
    (s.modSlot i f).slot j = if j = i then f (s.slot i) else s.slot j := by
  split
  · next h => subst h; simp
  · next h => exact State.slot_modSlot_other s i j f h

/-- The slots are the only thing the accessor reads. -/
theorem State.slot_congr (s t : State) (h : t.slots = s.slots) (i : Fin 3) : t.slot i = s.slot i := by
  simp [State.slot, h]

/-! ### `emit` -/

@[simp] theorem State.emit_slots (s : State) (o : Output) : (s.emit o).slots = s.slots := rfl
@[simp] theorem State.emit_rxState (s : State) (o : Output) : (s.emit o).rxState = s.rxState := rfl
@[simp] theorem State.emit_delim (s : State) (o : Output) : (s.emit o).delim = s.delim := rfl
@[simp] theorem State.emit_nibCnt (s : State) (o : Output) : (s.emit o).nibCnt = s.nibCnt := rfl
@[simp] theorem State.emit_payCnt (s : State) (o : Output) : (s.emit o).payCnt = s.payCnt := rfl
@[simp] theorem State.emit_rxIdx (s : State) (o : Output) : (s.emit o).rxIdx = s.rxIdx := rfl
@[simp] theorem State.emit_acc (s : State) (o : Output) : (s.emit o).acc = s.acc := rfl
@[simp] theorem State.emit_txIdx (s : State) (o : Output) : (s.emit o).txIdx = s.txIdx := rfl
@[simp] theorem State.emit_txCursor (s : State) (o : Output) : (s.emit o).txCursor = s.txCursor := rfl
@[simp] theorem State.emit_txBuf (s : State) (o : Output) : (s.emit o).txBuf = s.txBuf := rfl
@[simp] theorem State.emit_txLen (s : State) (o : Output) : (s.emit o).txLen = s.txLen := rfl
@[simp] theorem State.emit_txBusy (s : State) (o : Output) : (s.emit o).txBusy = s.txBusy := rfl
@[simp] theorem State.emit_drainPage (s : State) (o : Output) : (s.emit o).drainPage = s.drainPage := rfl
@[simp] theorem State.emit_drainCol (s : State) (o : Output) : (s.emit o).drainCol = s.drainCol := rfl
@[simp] theorem State.emit_blinkPhase (s : State) (o : Output) : (s.emit o).blinkPhase = s.blinkPhase := rfl
@[simp] theorem State.emit_schedArmed (s : State) (o : Output) : (s.emit o).schedArmed = s.schedArmed := rfl
@[simp] theorem State.emit_layout (s : State) (o : Output) : (s.emit o).layout = s.layout := rfl
@[simp] theorem State.emit_fb (s : State) (o : Output) : (s.emit o).fb = s.fb := rfl
@[simp] theorem State.emit_ver (s : State) (o : Output) : (s.emit o).ver = s.ver := rfl
@[simp] theorem State.emit_sent (s : State) (o : Output) : (s.emit o).sent = s.sent := rfl
@[simp] theorem State.emit_linebuf (s : State) (o : Output) : (s.emit o).linebuf = s.linebuf := rfl
@[simp] theorem State.emit_cacheValid (s : State) (o : Output) : (s.emit o).cacheValid = s.cacheValid := rfl
@[simp] theorem State.emit_task (s : State) (o : Output) : (s.emit o).task = s.task := rfl
@[simp] theorem State.emit_cfg (s : State) (o : Output) : (s.emit o).cfg = s.cfg := rfl
@[simp] theorem State.emit_fresh (s : State) (o : Output) : (s.emit o).fresh = s.fresh := rfl
@[simp] theorem State.emit_pending (s : State) (o : Output) : (s.emit o).pending = s.pending := rfl
@[simp] theorem State.emit_replies (s : State) (o : Output) : (s.emit o).replies = s.replies := rfl
@[simp] theorem State.emit_keyReads (s : State) (o : Output) : (s.emit o).keyReads = s.keyReads := rfl
@[simp] theorem State.emit_out (s : State) (o : Output) : (s.emit o).out = s.out ++ [o] := rfl
@[simp] theorem State.emit_slot (s : State) (o : Output) (j : Fin 3) : (s.emit o).slot j = s.slot j := rfl
@[simp] theorem State.emit_canvas (s : State) (o : Output) : (s.emit o).canvas = s.canvas := rfl

/-! ### `ret` -/

@[simp] theorem State.ret_slots (s : State) (v : Ret) : (s.ret v).slots = s.slots := rfl
@[simp] theorem State.ret_rxState (s : State) (v : Ret) : (s.ret v).rxState = s.rxState := rfl
@[simp] theorem State.ret_delim (s : State) (v : Ret) : (s.ret v).delim = s.delim := rfl
@[simp] theorem State.ret_nibCnt (s : State) (v : Ret) : (s.ret v).nibCnt = s.nibCnt := rfl
@[simp] theorem State.ret_payCnt (s : State) (v : Ret) : (s.ret v).payCnt = s.payCnt := rfl
@[simp] theorem State.ret_rxIdx (s : State) (v : Ret) : (s.ret v).rxIdx = s.rxIdx := rfl
@[simp] theorem State.ret_acc (s : State) (v : Ret) : (s.ret v).acc = s.acc := rfl
@[simp] theorem State.ret_txIdx (s : State) (v : Ret) : (s.ret v).txIdx = s.txIdx := rfl
@[simp] theorem State.ret_txCursor (s : State) (v : Ret) : (s.ret v).txCursor = s.txCursor := rfl
@[simp] theorem State.ret_txBuf (s : State) (v : Ret) : (s.ret v).txBuf = s.txBuf := rfl
@[simp] theorem State.ret_txLen (s : State) (v : Ret) : (s.ret v).txLen = s.txLen := rfl
@[simp] theorem State.ret_txBusy (s : State) (v : Ret) : (s.ret v).txBusy = s.txBusy := rfl
@[simp] theorem State.ret_drainPage (s : State) (v : Ret) : (s.ret v).drainPage = s.drainPage := rfl
@[simp] theorem State.ret_drainCol (s : State) (v : Ret) : (s.ret v).drainCol = s.drainCol := rfl
@[simp] theorem State.ret_blinkPhase (s : State) (v : Ret) : (s.ret v).blinkPhase = s.blinkPhase := rfl
@[simp] theorem State.ret_schedArmed (s : State) (v : Ret) : (s.ret v).schedArmed = s.schedArmed := rfl
@[simp] theorem State.ret_layout (s : State) (v : Ret) : (s.ret v).layout = s.layout := rfl
@[simp] theorem State.ret_fb (s : State) (v : Ret) : (s.ret v).fb = s.fb := rfl
@[simp] theorem State.ret_ver (s : State) (v : Ret) : (s.ret v).ver = s.ver := rfl
@[simp] theorem State.ret_sent (s : State) (v : Ret) : (s.ret v).sent = s.sent := rfl
@[simp] theorem State.ret_linebuf (s : State) (v : Ret) : (s.ret v).linebuf = s.linebuf := rfl
@[simp] theorem State.ret_cacheValid (s : State) (v : Ret) : (s.ret v).cacheValid = s.cacheValid := rfl
@[simp] theorem State.ret_task (s : State) (v : Ret) : (s.ret v).task = s.task := rfl
@[simp] theorem State.ret_cfg (s : State) (v : Ret) : (s.ret v).cfg = s.cfg := rfl
@[simp] theorem State.ret_fresh (s : State) (v : Ret) : (s.ret v).fresh = s.fresh := rfl
@[simp] theorem State.ret_pending (s : State) (v : Ret) : (s.ret v).pending = s.pending := rfl
@[simp] theorem State.ret_replies (s : State) (v : Ret) : (s.ret v).replies = s.replies := rfl
@[simp] theorem State.ret_keyReads (s : State) (v : Ret) : (s.ret v).keyReads = s.keyReads := rfl
@[simp] theorem State.ret_out (s : State) (v : Ret) : (s.ret v).out = s.out ++ [.ret v] := rfl
@[simp] theorem State.ret_slot (s : State) (v : Ret) (j : Fin 3) : (s.ret v).slot j = s.slot j := rfl
@[simp] theorem State.ret_canvas (s : State) (v : Ret) : (s.ret v).canvas = s.canvas := rfl

/-! ### `setBusy` -/

@[simp] theorem State.setBusy_slots (s : State) (v : Bool) : (s.setBusy v).slots = s.slots := rfl
@[simp] theorem State.setBusy_rxState (s : State) (v : Bool) : (s.setBusy v).rxState = s.rxState := rfl
@[simp] theorem State.setBusy_delim (s : State) (v : Bool) : (s.setBusy v).delim = s.delim := rfl
@[simp] theorem State.setBusy_nibCnt (s : State) (v : Bool) : (s.setBusy v).nibCnt = s.nibCnt := rfl
@[simp] theorem State.setBusy_payCnt (s : State) (v : Bool) : (s.setBusy v).payCnt = s.payCnt := rfl
@[simp] theorem State.setBusy_rxIdx (s : State) (v : Bool) : (s.setBusy v).rxIdx = s.rxIdx := rfl
@[simp] theorem State.setBusy_acc (s : State) (v : Bool) : (s.setBusy v).acc = s.acc := rfl
@[simp] theorem State.setBusy_txIdx (s : State) (v : Bool) : (s.setBusy v).txIdx = s.txIdx := rfl
@[simp] theorem State.setBusy_txCursor (s : State) (v : Bool) : (s.setBusy v).txCursor = s.txCursor := rfl
@[simp] theorem State.setBusy_txBuf (s : State) (v : Bool) : (s.setBusy v).txBuf = s.txBuf := rfl
@[simp] theorem State.setBusy_txLen (s : State) (v : Bool) : (s.setBusy v).txLen = s.txLen := rfl
@[simp] theorem State.setBusy_txBusy (s : State) (v : Bool) : (s.setBusy v).txBusy = v := rfl
@[simp] theorem State.setBusy_drainPage (s : State) (v : Bool) : (s.setBusy v).drainPage = s.drainPage := rfl
@[simp] theorem State.setBusy_drainCol (s : State) (v : Bool) : (s.setBusy v).drainCol = s.drainCol := rfl
@[simp] theorem State.setBusy_blinkPhase (s : State) (v : Bool) : (s.setBusy v).blinkPhase = s.blinkPhase := rfl
@[simp] theorem State.setBusy_schedArmed (s : State) (v : Bool) : (s.setBusy v).schedArmed = s.schedArmed := rfl
@[simp] theorem State.setBusy_layout (s : State) (v : Bool) : (s.setBusy v).layout = s.layout := rfl
@[simp] theorem State.setBusy_fb (s : State) (v : Bool) : (s.setBusy v).fb = s.fb := rfl
@[simp] theorem State.setBusy_ver (s : State) (v : Bool) : (s.setBusy v).ver = s.ver := rfl
@[simp] theorem State.setBusy_sent (s : State) (v : Bool) : (s.setBusy v).sent = s.sent := rfl
@[simp] theorem State.setBusy_linebuf (s : State) (v : Bool) : (s.setBusy v).linebuf = s.linebuf := rfl
@[simp] theorem State.setBusy_cacheValid (s : State) (v : Bool) : (s.setBusy v).cacheValid = s.cacheValid := rfl
@[simp] theorem State.setBusy_task (s : State) (v : Bool) : (s.setBusy v).task = s.task := rfl
@[simp] theorem State.setBusy_cfg (s : State) (v : Bool) : (s.setBusy v).cfg = s.cfg := rfl
@[simp] theorem State.setBusy_fresh (s : State) (v : Bool) : (s.setBusy v).fresh = s.fresh := rfl
@[simp] theorem State.setBusy_pending (s : State) (v : Bool) : (s.setBusy v).pending = s.pending := rfl
@[simp] theorem State.setBusy_replies (s : State) (v : Bool) : (s.setBusy v).replies = s.replies := rfl
@[simp] theorem State.setBusy_keyReads (s : State) (v : Bool) : (s.setBusy v).keyReads = s.keyReads := rfl
@[simp] theorem State.setBusy_out (s : State) (v : Bool) : (s.setBusy v).out = s.out := rfl
@[simp] theorem State.setBusy_slot (s : State) (v : Bool) (j : Fin 3) : (s.setBusy v).slot j = s.slot j := rfl
@[simp] theorem State.setBusy_canvas (s : State) (v : Bool) : (s.setBusy v).canvas = s.canvas := rfl

/-! ### `modSlot` -/

@[simp] theorem State.modSlot_slots (s : State) (i : Fin 3) (f : Slot → Slot) : (s.modSlot i f).slots = s.slots.set i.val (f (s.slot i)) i.isLt := rfl
@[simp] theorem State.modSlot_rxState (s : State) (i : Fin 3) (f : Slot → Slot) : (s.modSlot i f).rxState = s.rxState := rfl
@[simp] theorem State.modSlot_delim (s : State) (i : Fin 3) (f : Slot → Slot) : (s.modSlot i f).delim = s.delim := rfl
@[simp] theorem State.modSlot_nibCnt (s : State) (i : Fin 3) (f : Slot → Slot) : (s.modSlot i f).nibCnt = s.nibCnt := rfl
@[simp] theorem State.modSlot_payCnt (s : State) (i : Fin 3) (f : Slot → Slot) : (s.modSlot i f).payCnt = s.payCnt := rfl
@[simp] theorem State.modSlot_rxIdx (s : State) (i : Fin 3) (f : Slot → Slot) : (s.modSlot i f).rxIdx = s.rxIdx := rfl
@[simp] theorem State.modSlot_acc (s : State) (i : Fin 3) (f : Slot → Slot) : (s.modSlot i f).acc = s.acc := rfl
@[simp] theorem State.modSlot_txIdx (s : State) (i : Fin 3) (f : Slot → Slot) : (s.modSlot i f).txIdx = s.txIdx := rfl
@[simp] theorem State.modSlot_txCursor (s : State) (i : Fin 3) (f : Slot → Slot) : (s.modSlot i f).txCursor = s.txCursor := rfl
@[simp] theorem State.modSlot_txBuf (s : State) (i : Fin 3) (f : Slot → Slot) : (s.modSlot i f).txBuf = s.txBuf := rfl
@[simp] theorem State.modSlot_txLen (s : State) (i : Fin 3) (f : Slot → Slot) : (s.modSlot i f).txLen = s.txLen := rfl
@[simp] theorem State.modSlot_txBusy (s : State) (i : Fin 3) (f : Slot → Slot) : (s.modSlot i f).txBusy = s.txBusy := rfl
@[simp] theorem State.modSlot_drainPage (s : State) (i : Fin 3) (f : Slot → Slot) : (s.modSlot i f).drainPage = s.drainPage := rfl
@[simp] theorem State.modSlot_drainCol (s : State) (i : Fin 3) (f : Slot → Slot) : (s.modSlot i f).drainCol = s.drainCol := rfl
@[simp] theorem State.modSlot_blinkPhase (s : State) (i : Fin 3) (f : Slot → Slot) : (s.modSlot i f).blinkPhase = s.blinkPhase := rfl
@[simp] theorem State.modSlot_schedArmed (s : State) (i : Fin 3) (f : Slot → Slot) : (s.modSlot i f).schedArmed = s.schedArmed := rfl
@[simp] theorem State.modSlot_layout (s : State) (i : Fin 3) (f : Slot → Slot) : (s.modSlot i f).layout = s.layout := rfl
@[simp] theorem State.modSlot_fb (s : State) (i : Fin 3) (f : Slot → Slot) : (s.modSlot i f).fb = s.fb := rfl
@[simp] theorem State.modSlot_ver (s : State) (i : Fin 3) (f : Slot → Slot) : (s.modSlot i f).ver = s.ver := rfl
@[simp] theorem State.modSlot_sent (s : State) (i : Fin 3) (f : Slot → Slot) : (s.modSlot i f).sent = s.sent := rfl
@[simp] theorem State.modSlot_linebuf (s : State) (i : Fin 3) (f : Slot → Slot) : (s.modSlot i f).linebuf = s.linebuf := rfl
@[simp] theorem State.modSlot_cacheValid (s : State) (i : Fin 3) (f : Slot → Slot) : (s.modSlot i f).cacheValid = s.cacheValid := rfl
@[simp] theorem State.modSlot_task (s : State) (i : Fin 3) (f : Slot → Slot) : (s.modSlot i f).task = s.task := rfl
@[simp] theorem State.modSlot_cfg (s : State) (i : Fin 3) (f : Slot → Slot) : (s.modSlot i f).cfg = s.cfg := rfl
@[simp] theorem State.modSlot_fresh (s : State) (i : Fin 3) (f : Slot → Slot) : (s.modSlot i f).fresh = s.fresh := rfl
@[simp] theorem State.modSlot_pending (s : State) (i : Fin 3) (f : Slot → Slot) : (s.modSlot i f).pending = s.pending := rfl
@[simp] theorem State.modSlot_replies (s : State) (i : Fin 3) (f : Slot → Slot) : (s.modSlot i f).replies = s.replies := rfl
@[simp] theorem State.modSlot_keyReads (s : State) (i : Fin 3) (f : Slot → Slot) : (s.modSlot i f).keyReads = s.keyReads := rfl
@[simp] theorem State.modSlot_out (s : State) (i : Fin 3) (f : Slot → Slot) : (s.modSlot i f).out = s.out := rfl
@[simp] theorem State.modSlot_canvas (s : State) (i : Fin 3) (f : Slot → Slot) : (s.modSlot i f).canvas = s.canvas := rfl

/-! ### `setErr` -/

@[simp] theorem State.setErr_slots (s : State) (i : Fin 3) : (s.setErr i).slots = s.slots.set i.val { s.slot i with err := true } i.isLt := rfl
@[simp] theorem State.setErr_rxState (s : State) (i : Fin 3) : (s.setErr i).rxState = s.rxState := rfl
@[simp] theorem State.setErr_delim (s : State) (i : Fin 3) : (s.setErr i).delim = s.delim := rfl
@[simp] theorem State.setErr_nibCnt (s : State) (i : Fin 3) : (s.setErr i).nibCnt = s.nibCnt := rfl
@[simp] theorem State.setErr_payCnt (s : State) (i : Fin 3) : (s.setErr i).payCnt = s.payCnt := rfl
@[simp] theorem State.setErr_rxIdx (s : State) (i : Fin 3) : (s.setErr i).rxIdx = s.rxIdx := rfl
@[simp] theorem State.setErr_acc (s : State) (i : Fin 3) : (s.setErr i).acc = s.acc := rfl
@[simp] theorem State.setErr_txIdx (s : State) (i : Fin 3) : (s.setErr i).txIdx = s.txIdx := rfl
@[simp] theorem State.setErr_txCursor (s : State) (i : Fin 3) : (s.setErr i).txCursor = s.txCursor := rfl
@[simp] theorem State.setErr_txBuf (s : State) (i : Fin 3) : (s.setErr i).txBuf = s.txBuf := rfl
@[simp] theorem State.setErr_txLen (s : State) (i : Fin 3) : (s.setErr i).txLen = s.txLen := rfl
@[simp] theorem State.setErr_txBusy (s : State) (i : Fin 3) : (s.setErr i).txBusy = s.txBusy := rfl
@[simp] theorem State.setErr_drainPage (s : State) (i : Fin 3) : (s.setErr i).drainPage = s.drainPage := rfl
@[simp] theorem State.setErr_drainCol (s : State) (i : Fin 3) : (s.setErr i).drainCol = s.drainCol := rfl
@[simp] theorem State.setErr_blinkPhase (s : State) (i : Fin 3) : (s.setErr i).blinkPhase = s.blinkPhase := rfl
@[simp] theorem State.setErr_schedArmed (s : State) (i : Fin 3) : (s.setErr i).schedArmed = s.schedArmed := rfl
@[simp] theorem State.setErr_layout (s : State) (i : Fin 3) : (s.setErr i).layout = s.layout := rfl
@[simp] theorem State.setErr_fb (s : State) (i : Fin 3) : (s.setErr i).fb = s.fb := rfl
@[simp] theorem State.setErr_ver (s : State) (i : Fin 3) : (s.setErr i).ver = s.ver := rfl
@[simp] theorem State.setErr_sent (s : State) (i : Fin 3) : (s.setErr i).sent = s.sent := rfl
@[simp] theorem State.setErr_linebuf (s : State) (i : Fin 3) : (s.setErr i).linebuf = s.linebuf := rfl
@[simp] theorem State.setErr_cacheValid (s : State) (i : Fin 3) : (s.setErr i).cacheValid = s.cacheValid := rfl
@[simp] theorem State.setErr_task (s : State) (i : Fin 3) : (s.setErr i).task = s.task := rfl
@[simp] theorem State.setErr_cfg (s : State) (i : Fin 3) : (s.setErr i).cfg = s.cfg := rfl
@[simp] theorem State.setErr_fresh (s : State) (i : Fin 3) : (s.setErr i).fresh = s.fresh := rfl
@[simp] theorem State.setErr_pending (s : State) (i : Fin 3) : (s.setErr i).pending = s.pending := rfl
@[simp] theorem State.setErr_replies (s : State) (i : Fin 3) : (s.setErr i).replies = s.replies := rfl
@[simp] theorem State.setErr_keyReads (s : State) (i : Fin 3) : (s.setErr i).keyReads = s.keyReads := rfl
@[simp] theorem State.setErr_out (s : State) (i : Fin 3) : (s.setErr i).out = s.out := rfl
@[simp] theorem State.setErr_canvas (s : State) (i : Fin 3) : (s.setErr i).canvas = s.canvas := rfl

/-! ### `setAck` -/

@[simp] theorem State.setAck_slots (s : State) (i : Fin 3) (a : Ack) : (s.setAck i a).slots = s.slots.set i.val { s.slot i with ack := a } i.isLt := rfl
@[simp] theorem State.setAck_rxState (s : State) (i : Fin 3) (a : Ack) : (s.setAck i a).rxState = s.rxState := rfl
@[simp] theorem State.setAck_delim (s : State) (i : Fin 3) (a : Ack) : (s.setAck i a).delim = s.delim := rfl
@[simp] theorem State.setAck_nibCnt (s : State) (i : Fin 3) (a : Ack) : (s.setAck i a).nibCnt = s.nibCnt := rfl
@[simp] theorem State.setAck_payCnt (s : State) (i : Fin 3) (a : Ack) : (s.setAck i a).payCnt = s.payCnt := rfl
@[simp] theorem State.setAck_rxIdx (s : State) (i : Fin 3) (a : Ack) : (s.setAck i a).rxIdx = s.rxIdx := rfl
@[simp] theorem State.setAck_acc (s : State) (i : Fin 3) (a : Ack) : (s.setAck i a).acc = s.acc := rfl
@[simp] theorem State.setAck_txIdx (s : State) (i : Fin 3) (a : Ack) : (s.setAck i a).txIdx = s.txIdx := rfl
@[simp] theorem State.setAck_txCursor (s : State) (i : Fin 3) (a : Ack) : (s.setAck i a).txCursor = s.txCursor := rfl
@[simp] theorem State.setAck_txBuf (s : State) (i : Fin 3) (a : Ack) : (s.setAck i a).txBuf = s.txBuf := rfl
@[simp] theorem State.setAck_txLen (s : State) (i : Fin 3) (a : Ack) : (s.setAck i a).txLen = s.txLen := rfl
@[simp] theorem State.setAck_txBusy (s : State) (i : Fin 3) (a : Ack) : (s.setAck i a).txBusy = s.txBusy := rfl
@[simp] theorem State.setAck_drainPage (s : State) (i : Fin 3) (a : Ack) : (s.setAck i a).drainPage = s.drainPage := rfl
@[simp] theorem State.setAck_drainCol (s : State) (i : Fin 3) (a : Ack) : (s.setAck i a).drainCol = s.drainCol := rfl
@[simp] theorem State.setAck_blinkPhase (s : State) (i : Fin 3) (a : Ack) : (s.setAck i a).blinkPhase = s.blinkPhase := rfl
@[simp] theorem State.setAck_schedArmed (s : State) (i : Fin 3) (a : Ack) : (s.setAck i a).schedArmed = s.schedArmed := rfl
@[simp] theorem State.setAck_layout (s : State) (i : Fin 3) (a : Ack) : (s.setAck i a).layout = s.layout := rfl
@[simp] theorem State.setAck_fb (s : State) (i : Fin 3) (a : Ack) : (s.setAck i a).fb = s.fb := rfl
@[simp] theorem State.setAck_ver (s : State) (i : Fin 3) (a : Ack) : (s.setAck i a).ver = s.ver := rfl
@[simp] theorem State.setAck_sent (s : State) (i : Fin 3) (a : Ack) : (s.setAck i a).sent = s.sent := rfl
@[simp] theorem State.setAck_linebuf (s : State) (i : Fin 3) (a : Ack) : (s.setAck i a).linebuf = s.linebuf := rfl
@[simp] theorem State.setAck_cacheValid (s : State) (i : Fin 3) (a : Ack) : (s.setAck i a).cacheValid = s.cacheValid := rfl
@[simp] theorem State.setAck_task (s : State) (i : Fin 3) (a : Ack) : (s.setAck i a).task = s.task := rfl
@[simp] theorem State.setAck_cfg (s : State) (i : Fin 3) (a : Ack) : (s.setAck i a).cfg = s.cfg := rfl
@[simp] theorem State.setAck_fresh (s : State) (i : Fin 3) (a : Ack) : (s.setAck i a).fresh = s.fresh := rfl
@[simp] theorem State.setAck_pending (s : State) (i : Fin 3) (a : Ack) : (s.setAck i a).pending = s.pending := rfl
@[simp] theorem State.setAck_replies (s : State) (i : Fin 3) (a : Ack) : (s.setAck i a).replies = s.replies := rfl
@[simp] theorem State.setAck_keyReads (s : State) (i : Fin 3) (a : Ack) : (s.setAck i a).keyReads = s.keyReads := rfl
@[simp] theorem State.setAck_out (s : State) (i : Fin 3) (a : Ack) : (s.setAck i a).out = s.out := rfl
@[simp] theorem State.setAck_canvas (s : State) (i : Fin 3) (a : Ack) : (s.setAck i a).canvas = s.canvas := rfl

/-! ### `clearSlot` -/

@[simp] theorem State.clearSlot_slots (s : State) (i : Fin 3) : (s.clearSlot i).slots = s.slots.set i.val (Slot.cleared s.cfg.crcInit) i.isLt := rfl
@[simp] theorem State.clearSlot_rxState (s : State) (i : Fin 3) : (s.clearSlot i).rxState = s.rxState := rfl
@[simp] theorem State.clearSlot_delim (s : State) (i : Fin 3) : (s.clearSlot i).delim = s.delim := rfl
@[simp] theorem State.clearSlot_nibCnt (s : State) (i : Fin 3) : (s.clearSlot i).nibCnt = s.nibCnt := rfl
@[simp] theorem State.clearSlot_payCnt (s : State) (i : Fin 3) : (s.clearSlot i).payCnt = s.payCnt := rfl
@[simp] theorem State.clearSlot_rxIdx (s : State) (i : Fin 3) : (s.clearSlot i).rxIdx = s.rxIdx := rfl
@[simp] theorem State.clearSlot_acc (s : State) (i : Fin 3) : (s.clearSlot i).acc = s.acc := rfl
@[simp] theorem State.clearSlot_txIdx (s : State) (i : Fin 3) : (s.clearSlot i).txIdx = s.txIdx := rfl
@[simp] theorem State.clearSlot_txCursor (s : State) (i : Fin 3) : (s.clearSlot i).txCursor = s.txCursor := rfl
@[simp] theorem State.clearSlot_txBuf (s : State) (i : Fin 3) : (s.clearSlot i).txBuf = s.txBuf := rfl
@[simp] theorem State.clearSlot_txLen (s : State) (i : Fin 3) : (s.clearSlot i).txLen = s.txLen := rfl
@[simp] theorem State.clearSlot_txBusy (s : State) (i : Fin 3) : (s.clearSlot i).txBusy = s.txBusy := rfl
@[simp] theorem State.clearSlot_drainPage (s : State) (i : Fin 3) : (s.clearSlot i).drainPage = s.drainPage := rfl
@[simp] theorem State.clearSlot_drainCol (s : State) (i : Fin 3) : (s.clearSlot i).drainCol = s.drainCol := rfl
@[simp] theorem State.clearSlot_blinkPhase (s : State) (i : Fin 3) : (s.clearSlot i).blinkPhase = s.blinkPhase := rfl
@[simp] theorem State.clearSlot_schedArmed (s : State) (i : Fin 3) : (s.clearSlot i).schedArmed = s.schedArmed := rfl
@[simp] theorem State.clearSlot_layout (s : State) (i : Fin 3) : (s.clearSlot i).layout = s.layout := rfl
@[simp] theorem State.clearSlot_fb (s : State) (i : Fin 3) : (s.clearSlot i).fb = s.fb := rfl
@[simp] theorem State.clearSlot_ver (s : State) (i : Fin 3) : (s.clearSlot i).ver = s.ver := rfl
@[simp] theorem State.clearSlot_sent (s : State) (i : Fin 3) : (s.clearSlot i).sent = s.sent := rfl
@[simp] theorem State.clearSlot_linebuf (s : State) (i : Fin 3) : (s.clearSlot i).linebuf = s.linebuf := rfl
@[simp] theorem State.clearSlot_cacheValid (s : State) (i : Fin 3) : (s.clearSlot i).cacheValid = s.cacheValid := rfl
@[simp] theorem State.clearSlot_task (s : State) (i : Fin 3) : (s.clearSlot i).task = s.task := rfl
@[simp] theorem State.clearSlot_cfg (s : State) (i : Fin 3) : (s.clearSlot i).cfg = s.cfg := rfl
@[simp] theorem State.clearSlot_fresh (s : State) (i : Fin 3) : (s.clearSlot i).fresh = s.fresh := rfl
@[simp] theorem State.clearSlot_pending (s : State) (i : Fin 3) : (s.clearSlot i).pending = s.pending := rfl
@[simp] theorem State.clearSlot_replies (s : State) (i : Fin 3) : (s.clearSlot i).replies = s.replies := rfl
@[simp] theorem State.clearSlot_keyReads (s : State) (i : Fin 3) : (s.clearSlot i).keyReads = s.keyReads := rfl
@[simp] theorem State.clearSlot_out (s : State) (i : Fin 3) : (s.clearSlot i).out = s.out := rfl
@[simp] theorem State.clearSlot_canvas (s : State) (i : Fin 3) : (s.clearSlot i).canvas = s.canvas := rfl

/-! ### `togglePhase` -/

@[simp] theorem State.togglePhase_slots (s : State) : (s.togglePhase).slots = s.slots := rfl
@[simp] theorem State.togglePhase_rxState (s : State) : (s.togglePhase).rxState = s.rxState := rfl
@[simp] theorem State.togglePhase_delim (s : State) : (s.togglePhase).delim = s.delim := rfl
@[simp] theorem State.togglePhase_nibCnt (s : State) : (s.togglePhase).nibCnt = s.nibCnt := rfl
@[simp] theorem State.togglePhase_payCnt (s : State) : (s.togglePhase).payCnt = s.payCnt := rfl
@[simp] theorem State.togglePhase_rxIdx (s : State) : (s.togglePhase).rxIdx = s.rxIdx := rfl
@[simp] theorem State.togglePhase_acc (s : State) : (s.togglePhase).acc = s.acc := rfl
@[simp] theorem State.togglePhase_txIdx (s : State) : (s.togglePhase).txIdx = s.txIdx := rfl
@[simp] theorem State.togglePhase_txCursor (s : State) : (s.togglePhase).txCursor = s.txCursor := rfl
@[simp] theorem State.togglePhase_txBuf (s : State) : (s.togglePhase).txBuf = s.txBuf := rfl
@[simp] theorem State.togglePhase_txLen (s : State) : (s.togglePhase).txLen = s.txLen := rfl
@[simp] theorem State.togglePhase_txBusy (s : State) : (s.togglePhase).txBusy = s.txBusy := rfl
@[simp] theorem State.togglePhase_drainPage (s : State) : (s.togglePhase).drainPage = s.drainPage := rfl
@[simp] theorem State.togglePhase_drainCol (s : State) : (s.togglePhase).drainCol = s.drainCol := rfl
@[simp] theorem State.togglePhase_blinkPhase (s : State) : (s.togglePhase).blinkPhase = !s.blinkPhase := rfl
@[simp] theorem State.togglePhase_schedArmed (s : State) : (s.togglePhase).schedArmed = s.schedArmed := rfl
@[simp] theorem State.togglePhase_layout (s : State) : (s.togglePhase).layout = s.layout := rfl
@[simp] theorem State.togglePhase_fb (s : State) : (s.togglePhase).fb = s.fb := rfl
@[simp] theorem State.togglePhase_ver (s : State) : (s.togglePhase).ver = s.ver := rfl
@[simp] theorem State.togglePhase_sent (s : State) : (s.togglePhase).sent = s.sent := rfl
@[simp] theorem State.togglePhase_linebuf (s : State) : (s.togglePhase).linebuf = s.linebuf := rfl
@[simp] theorem State.togglePhase_cacheValid (s : State) : (s.togglePhase).cacheValid = s.cacheValid := rfl
@[simp] theorem State.togglePhase_task (s : State) : (s.togglePhase).task = s.task := rfl
@[simp] theorem State.togglePhase_cfg (s : State) : (s.togglePhase).cfg = s.cfg := rfl
@[simp] theorem State.togglePhase_fresh (s : State) : (s.togglePhase).fresh = s.fresh := rfl
@[simp] theorem State.togglePhase_pending (s : State) : (s.togglePhase).pending = s.pending := rfl
@[simp] theorem State.togglePhase_replies (s : State) : (s.togglePhase).replies = s.replies := rfl
@[simp] theorem State.togglePhase_keyReads (s : State) : (s.togglePhase).keyReads = s.keyReads := rfl
@[simp] theorem State.togglePhase_out (s : State) : (s.togglePhase).out = s.out := rfl
@[simp] theorem State.togglePhase_slot (s : State) (j : Fin 3) : (s.togglePhase).slot j = s.slot j := rfl
@[simp] theorem State.togglePhase_canvas (s : State) : (s.togglePhase).canvas = s.canvas := rfl

/-! ### `modTask` -/

@[simp] theorem State.modTask_slots (s : State) (l : Fin 4) (f : BlinkTask → BlinkTask) : (s.modTask l f).slots = s.slots := rfl
@[simp] theorem State.modTask_rxState (s : State) (l : Fin 4) (f : BlinkTask → BlinkTask) : (s.modTask l f).rxState = s.rxState := rfl
@[simp] theorem State.modTask_delim (s : State) (l : Fin 4) (f : BlinkTask → BlinkTask) : (s.modTask l f).delim = s.delim := rfl
@[simp] theorem State.modTask_nibCnt (s : State) (l : Fin 4) (f : BlinkTask → BlinkTask) : (s.modTask l f).nibCnt = s.nibCnt := rfl
@[simp] theorem State.modTask_payCnt (s : State) (l : Fin 4) (f : BlinkTask → BlinkTask) : (s.modTask l f).payCnt = s.payCnt := rfl
@[simp] theorem State.modTask_rxIdx (s : State) (l : Fin 4) (f : BlinkTask → BlinkTask) : (s.modTask l f).rxIdx = s.rxIdx := rfl
@[simp] theorem State.modTask_acc (s : State) (l : Fin 4) (f : BlinkTask → BlinkTask) : (s.modTask l f).acc = s.acc := rfl
@[simp] theorem State.modTask_txIdx (s : State) (l : Fin 4) (f : BlinkTask → BlinkTask) : (s.modTask l f).txIdx = s.txIdx := rfl
@[simp] theorem State.modTask_txCursor (s : State) (l : Fin 4) (f : BlinkTask → BlinkTask) : (s.modTask l f).txCursor = s.txCursor := rfl
@[simp] theorem State.modTask_txBuf (s : State) (l : Fin 4) (f : BlinkTask → BlinkTask) : (s.modTask l f).txBuf = s.txBuf := rfl
@[simp] theorem State.modTask_txLen (s : State) (l : Fin 4) (f : BlinkTask → BlinkTask) : (s.modTask l f).txLen = s.txLen := rfl
@[simp] theorem State.modTask_txBusy (s : State) (l : Fin 4) (f : BlinkTask → BlinkTask) : (s.modTask l f).txBusy = s.txBusy := rfl
@[simp] theorem State.modTask_drainPage (s : State) (l : Fin 4) (f : BlinkTask → BlinkTask) : (s.modTask l f).drainPage = s.drainPage := rfl
@[simp] theorem State.modTask_drainCol (s : State) (l : Fin 4) (f : BlinkTask → BlinkTask) : (s.modTask l f).drainCol = s.drainCol := rfl
@[simp] theorem State.modTask_blinkPhase (s : State) (l : Fin 4) (f : BlinkTask → BlinkTask) : (s.modTask l f).blinkPhase = s.blinkPhase := rfl
@[simp] theorem State.modTask_schedArmed (s : State) (l : Fin 4) (f : BlinkTask → BlinkTask) : (s.modTask l f).schedArmed = s.schedArmed := rfl
@[simp] theorem State.modTask_layout (s : State) (l : Fin 4) (f : BlinkTask → BlinkTask) : (s.modTask l f).layout = s.layout := rfl
@[simp] theorem State.modTask_fb (s : State) (l : Fin 4) (f : BlinkTask → BlinkTask) : (s.modTask l f).fb = s.fb := rfl
@[simp] theorem State.modTask_ver (s : State) (l : Fin 4) (f : BlinkTask → BlinkTask) : (s.modTask l f).ver = s.ver := rfl
@[simp] theorem State.modTask_sent (s : State) (l : Fin 4) (f : BlinkTask → BlinkTask) : (s.modTask l f).sent = s.sent := rfl
@[simp] theorem State.modTask_linebuf (s : State) (l : Fin 4) (f : BlinkTask → BlinkTask) : (s.modTask l f).linebuf = s.linebuf := rfl
@[simp] theorem State.modTask_cacheValid (s : State) (l : Fin 4) (f : BlinkTask → BlinkTask) : (s.modTask l f).cacheValid = s.cacheValid := rfl
@[simp] theorem State.modTask_task (s : State) (l : Fin 4) (f : BlinkTask → BlinkTask) : (s.modTask l f).task = s.task.set l.val (f s.task[l.val]) l.isLt := rfl
@[simp] theorem State.modTask_cfg (s : State) (l : Fin 4) (f : BlinkTask → BlinkTask) : (s.modTask l f).cfg = s.cfg := rfl
@[simp] theorem State.modTask_fresh (s : State) (l : Fin 4) (f : BlinkTask → BlinkTask) : (s.modTask l f).fresh = s.fresh := rfl
@[simp] theorem State.modTask_pending (s : State) (l : Fin 4) (f : BlinkTask → BlinkTask) : (s.modTask l f).pending = s.pending := rfl
@[simp] theorem State.modTask_replies (s : State) (l : Fin 4) (f : BlinkTask → BlinkTask) : (s.modTask l f).replies = s.replies := rfl
@[simp] theorem State.modTask_keyReads (s : State) (l : Fin 4) (f : BlinkTask → BlinkTask) : (s.modTask l f).keyReads = s.keyReads := rfl
@[simp] theorem State.modTask_out (s : State) (l : Fin 4) (f : BlinkTask → BlinkTask) : (s.modTask l f).out = s.out := rfl
@[simp] theorem State.modTask_slot (s : State) (l : Fin 4) (f : BlinkTask → BlinkTask) (j : Fin 3) : (s.modTask l f).slot j = s.slot j := rfl
@[simp] theorem State.modTask_canvas (s : State) (l : Fin 4) (f : BlinkTask → BlinkTask) : (s.modTask l f).canvas = s.canvas := rfl

/-! ### `killTask` -/

@[simp] theorem State.killTask_slots (s : State) (l : Fin 4) : (s.killTask l).slots = s.slots := rfl
@[simp] theorem State.killTask_rxState (s : State) (l : Fin 4) : (s.killTask l).rxState = s.rxState := rfl
@[simp] theorem State.killTask_delim (s : State) (l : Fin 4) : (s.killTask l).delim = s.delim := rfl
@[simp] theorem State.killTask_nibCnt (s : State) (l : Fin 4) : (s.killTask l).nibCnt = s.nibCnt := rfl
@[simp] theorem State.killTask_payCnt (s : State) (l : Fin 4) : (s.killTask l).payCnt = s.payCnt := rfl
@[simp] theorem State.killTask_rxIdx (s : State) (l : Fin 4) : (s.killTask l).rxIdx = s.rxIdx := rfl
@[simp] theorem State.killTask_acc (s : State) (l : Fin 4) : (s.killTask l).acc = s.acc := rfl
@[simp] theorem State.killTask_txIdx (s : State) (l : Fin 4) : (s.killTask l).txIdx = s.txIdx := rfl
@[simp] theorem State.killTask_txCursor (s : State) (l : Fin 4) : (s.killTask l).txCursor = s.txCursor := rfl
@[simp] theorem State.killTask_txBuf (s : State) (l : Fin 4) : (s.killTask l).txBuf = s.txBuf := rfl
@[simp] theorem State.killTask_txLen (s : State) (l : Fin 4) : (s.killTask l).txLen = s.txLen := rfl
@[simp] theorem State.killTask_txBusy (s : State) (l : Fin 4) : (s.killTask l).txBusy = s.txBusy := rfl
@[simp] theorem State.killTask_drainPage (s : State) (l : Fin 4) : (s.killTask l).drainPage = s.drainPage := rfl
@[simp] theorem State.killTask_drainCol (s : State) (l : Fin 4) : (s.killTask l).drainCol = s.drainCol := rfl
@[simp] theorem State.killTask_blinkPhase (s : State) (l : Fin 4) : (s.killTask l).blinkPhase = s.blinkPhase := rfl
@[simp] theorem State.killTask_schedArmed (s : State) (l : Fin 4) : (s.killTask l).schedArmed = s.schedArmed := rfl
@[simp] theorem State.killTask_layout (s : State) (l : Fin 4) : (s.killTask l).layout = s.layout := rfl
@[simp] theorem State.killTask_fb (s : State) (l : Fin 4) : (s.killTask l).fb = s.fb := rfl
@[simp] theorem State.killTask_ver (s : State) (l : Fin 4) : (s.killTask l).ver = s.ver := rfl
@[simp] theorem State.killTask_sent (s : State) (l : Fin 4) : (s.killTask l).sent = s.sent := rfl
@[simp] theorem State.killTask_linebuf (s : State) (l : Fin 4) : (s.killTask l).linebuf = s.linebuf := rfl
@[simp] theorem State.killTask_cacheValid (s : State) (l : Fin 4) : (s.killTask l).cacheValid = s.cacheValid := rfl
@[simp] theorem State.killTask_task (s : State) (l : Fin 4) : (s.killTask l).task = s.task.set l.val { s.task[l.val] with live := false } l.isLt := rfl
@[simp] theorem State.killTask_cfg (s : State) (l : Fin 4) : (s.killTask l).cfg = s.cfg := rfl
@[simp] theorem State.killTask_fresh (s : State) (l : Fin 4) : (s.killTask l).fresh = s.fresh := rfl
@[simp] theorem State.killTask_pending (s : State) (l : Fin 4) : (s.killTask l).pending = s.pending := rfl
@[simp] theorem State.killTask_replies (s : State) (l : Fin 4) : (s.killTask l).replies = s.replies := rfl
@[simp] theorem State.killTask_keyReads (s : State) (l : Fin 4) : (s.killTask l).keyReads = s.keyReads := rfl
@[simp] theorem State.killTask_out (s : State) (l : Fin 4) : (s.killTask l).out = s.out := rfl
@[simp] theorem State.killTask_slot (s : State) (l : Fin 4) (j : Fin 3) : (s.killTask l).slot j = s.slot j := rfl
@[simp] theorem State.killTask_canvas (s : State) (l : Fin 4) : (s.killTask l).canvas = s.canvas := rfl

/-! ### `withCanvas` -/

@[simp] theorem State.withCanvas_slots (s : State) (cv : Canvas) : (s.withCanvas cv).slots = s.slots := rfl
@[simp] theorem State.withCanvas_rxState (s : State) (cv : Canvas) : (s.withCanvas cv).rxState = s.rxState := rfl
@[simp] theorem State.withCanvas_delim (s : State) (cv : Canvas) : (s.withCanvas cv).delim = s.delim := rfl
@[simp] theorem State.withCanvas_nibCnt (s : State) (cv : Canvas) : (s.withCanvas cv).nibCnt = s.nibCnt := rfl
@[simp] theorem State.withCanvas_payCnt (s : State) (cv : Canvas) : (s.withCanvas cv).payCnt = s.payCnt := rfl
@[simp] theorem State.withCanvas_rxIdx (s : State) (cv : Canvas) : (s.withCanvas cv).rxIdx = s.rxIdx := rfl
@[simp] theorem State.withCanvas_acc (s : State) (cv : Canvas) : (s.withCanvas cv).acc = s.acc := rfl
@[simp] theorem State.withCanvas_txIdx (s : State) (cv : Canvas) : (s.withCanvas cv).txIdx = s.txIdx := rfl
@[simp] theorem State.withCanvas_txCursor (s : State) (cv : Canvas) : (s.withCanvas cv).txCursor = s.txCursor := rfl
@[simp] theorem State.withCanvas_txBuf (s : State) (cv : Canvas) : (s.withCanvas cv).txBuf = s.txBuf := rfl
@[simp] theorem State.withCanvas_txLen (s : State) (cv : Canvas) : (s.withCanvas cv).txLen = s.txLen := rfl
@[simp] theorem State.withCanvas_txBusy (s : State) (cv : Canvas) : (s.withCanvas cv).txBusy = s.txBusy := rfl
@[simp] theorem State.withCanvas_drainPage (s : State) (cv : Canvas) : (s.withCanvas cv).drainPage = s.drainPage := rfl
@[simp] theorem State.withCanvas_drainCol (s : State) (cv : Canvas) : (s.withCanvas cv).drainCol = s.drainCol := rfl
@[simp] theorem State.withCanvas_blinkPhase (s : State) (cv : Canvas) : (s.withCanvas cv).blinkPhase = s.blinkPhase := rfl
@[simp] theorem State.withCanvas_schedArmed (s : State) (cv : Canvas) : (s.withCanvas cv).schedArmed = s.schedArmed := rfl
@[simp] theorem State.withCanvas_layout (s : State) (cv : Canvas) : (s.withCanvas cv).layout = s.layout := rfl
@[simp] theorem State.withCanvas_fb (s : State) (cv : Canvas) : (s.withCanvas cv).fb = cv.fb := rfl
@[simp] theorem State.withCanvas_ver (s : State) (cv : Canvas) : (s.withCanvas cv).ver = cv.ver := rfl
@[simp] theorem State.withCanvas_sent (s : State) (cv : Canvas) : (s.withCanvas cv).sent = s.sent := rfl
@[simp] theorem State.withCanvas_linebuf (s : State) (cv : Canvas) : (s.withCanvas cv).linebuf = s.linebuf := rfl
@[simp] theorem State.withCanvas_cacheValid (s : State) (cv : Canvas) : (s.withCanvas cv).cacheValid = s.cacheValid := rfl
@[simp] theorem State.withCanvas_task (s : State) (cv : Canvas) : (s.withCanvas cv).task = s.task := rfl
@[simp] theorem State.withCanvas_cfg (s : State) (cv : Canvas) : (s.withCanvas cv).cfg = s.cfg := rfl
@[simp] theorem State.withCanvas_fresh (s : State) (cv : Canvas) : (s.withCanvas cv).fresh = s.fresh := rfl
@[simp] theorem State.withCanvas_pending (s : State) (cv : Canvas) : (s.withCanvas cv).pending = s.pending := rfl
@[simp] theorem State.withCanvas_replies (s : State) (cv : Canvas) : (s.withCanvas cv).replies = s.replies := rfl
@[simp] theorem State.withCanvas_keyReads (s : State) (cv : Canvas) : (s.withCanvas cv).keyReads = s.keyReads := rfl
@[simp] theorem State.withCanvas_out (s : State) (cv : Canvas) : (s.withCanvas cv).out = s.out := rfl
@[simp] theorem State.withCanvas_slot (s : State) (cv : Canvas) (j : Fin 3) : (s.withCanvas cv).slot j = s.slot j := rfl
@[simp] theorem State.withCanvas_canvas (s : State) (cv : Canvas) : (s.withCanvas cv).canvas = cv := rfl

/-! ### `armScheduler` -/

@[simp] theorem State.armScheduler_slots (s : State) : (s.armScheduler).slots = s.slots := rfl
@[simp] theorem State.armScheduler_rxState (s : State) : (s.armScheduler).rxState = s.rxState := rfl
@[simp] theorem State.armScheduler_delim (s : State) : (s.armScheduler).delim = s.delim := rfl
@[simp] theorem State.armScheduler_nibCnt (s : State) : (s.armScheduler).nibCnt = s.nibCnt := rfl
@[simp] theorem State.armScheduler_payCnt (s : State) : (s.armScheduler).payCnt = s.payCnt := rfl
@[simp] theorem State.armScheduler_rxIdx (s : State) : (s.armScheduler).rxIdx = s.rxIdx := rfl
@[simp] theorem State.armScheduler_acc (s : State) : (s.armScheduler).acc = s.acc := rfl
@[simp] theorem State.armScheduler_txIdx (s : State) : (s.armScheduler).txIdx = s.txIdx := rfl
@[simp] theorem State.armScheduler_txCursor (s : State) : (s.armScheduler).txCursor = s.txCursor := rfl
@[simp] theorem State.armScheduler_txBuf (s : State) : (s.armScheduler).txBuf = s.txBuf := rfl
@[simp] theorem State.armScheduler_txLen (s : State) : (s.armScheduler).txLen = s.txLen := rfl
@[simp] theorem State.armScheduler_txBusy (s : State) : (s.armScheduler).txBusy = s.txBusy := rfl
@[simp] theorem State.armScheduler_drainPage (s : State) : (s.armScheduler).drainPage = s.drainPage := rfl
@[simp] theorem State.armScheduler_drainCol (s : State) : (s.armScheduler).drainCol = s.drainCol := rfl
@[simp] theorem State.armScheduler_blinkPhase (s : State) : (s.armScheduler).blinkPhase = s.blinkPhase := rfl
@[simp] theorem State.armScheduler_schedArmed (s : State) : (s.armScheduler).schedArmed = true := rfl
@[simp] theorem State.armScheduler_layout (s : State) : (s.armScheduler).layout = s.layout := rfl
@[simp] theorem State.armScheduler_fb (s : State) : (s.armScheduler).fb = s.fb := rfl
@[simp] theorem State.armScheduler_ver (s : State) : (s.armScheduler).ver = s.ver := rfl
@[simp] theorem State.armScheduler_sent (s : State) : (s.armScheduler).sent = s.sent := rfl
@[simp] theorem State.armScheduler_linebuf (s : State) : (s.armScheduler).linebuf = s.linebuf := rfl
@[simp] theorem State.armScheduler_cacheValid (s : State) : (s.armScheduler).cacheValid = s.cacheValid := rfl
@[simp] theorem State.armScheduler_task (s : State) : (s.armScheduler).task = s.task := rfl
@[simp] theorem State.armScheduler_cfg (s : State) : (s.armScheduler).cfg = s.cfg := rfl
@[simp] theorem State.armScheduler_fresh (s : State) : (s.armScheduler).fresh = s.fresh := rfl
@[simp] theorem State.armScheduler_pending (s : State) : (s.armScheduler).pending = s.pending := rfl
@[simp] theorem State.armScheduler_replies (s : State) : (s.armScheduler).replies = s.replies := rfl
@[simp] theorem State.armScheduler_keyReads (s : State) : (s.armScheduler).keyReads = s.keyReads := rfl
@[simp] theorem State.armScheduler_out (s : State) : (s.armScheduler).out = s.out ++ [.schedArm] := rfl
@[simp] theorem State.armScheduler_slot (s : State) (j : Fin 3) : (s.armScheduler).slot j = s.slot j := rfl
@[simp] theorem State.armScheduler_canvas (s : State) : (s.armScheduler).canvas = s.canvas := rfl

/-! ### `cacheLine` -/

@[simp] theorem State.cacheLine_slots (s : State) (l : Fin 4) (c : Vector Byte 20) : (s.cacheLine l c).slots = s.slots := rfl
@[simp] theorem State.cacheLine_rxState (s : State) (l : Fin 4) (c : Vector Byte 20) : (s.cacheLine l c).rxState = s.rxState := rfl
@[simp] theorem State.cacheLine_delim (s : State) (l : Fin 4) (c : Vector Byte 20) : (s.cacheLine l c).delim = s.delim := rfl
@[simp] theorem State.cacheLine_nibCnt (s : State) (l : Fin 4) (c : Vector Byte 20) : (s.cacheLine l c).nibCnt = s.nibCnt := rfl
@[simp] theorem State.cacheLine_payCnt (s : State) (l : Fin 4) (c : Vector Byte 20) : (s.cacheLine l c).payCnt = s.payCnt := rfl
@[simp] theorem State.cacheLine_rxIdx (s : State) (l : Fin 4) (c : Vector Byte 20) : (s.cacheLine l c).rxIdx = s.rxIdx := rfl
@[simp] theorem State.cacheLine_acc (s : State) (l : Fin 4) (c : Vector Byte 20) : (s.cacheLine l c).acc = s.acc := rfl
@[simp] theorem State.cacheLine_txIdx (s : State) (l : Fin 4) (c : Vector Byte 20) : (s.cacheLine l c).txIdx = s.txIdx := rfl
@[simp] theorem State.cacheLine_txCursor (s : State) (l : Fin 4) (c : Vector Byte 20) : (s.cacheLine l c).txCursor = s.txCursor := rfl
@[simp] theorem State.cacheLine_txBuf (s : State) (l : Fin 4) (c : Vector Byte 20) : (s.cacheLine l c).txBuf = s.txBuf := rfl
@[simp] theorem State.cacheLine_txLen (s : State) (l : Fin 4) (c : Vector Byte 20) : (s.cacheLine l c).txLen = s.txLen := rfl
@[simp] theorem State.cacheLine_txBusy (s : State) (l : Fin 4) (c : Vector Byte 20) : (s.cacheLine l c).txBusy = s.txBusy := rfl
@[simp] theorem State.cacheLine_drainPage (s : State) (l : Fin 4) (c : Vector Byte 20) : (s.cacheLine l c).drainPage = s.drainPage := rfl
@[simp] theorem State.cacheLine_drainCol (s : State) (l : Fin 4) (c : Vector Byte 20) : (s.cacheLine l c).drainCol = s.drainCol := rfl
@[simp] theorem State.cacheLine_blinkPhase (s : State) (l : Fin 4) (c : Vector Byte 20) : (s.cacheLine l c).blinkPhase = s.blinkPhase := rfl
@[simp] theorem State.cacheLine_schedArmed (s : State) (l : Fin 4) (c : Vector Byte 20) : (s.cacheLine l c).schedArmed = s.schedArmed := rfl
@[simp] theorem State.cacheLine_layout (s : State) (l : Fin 4) (c : Vector Byte 20) : (s.cacheLine l c).layout = s.layout := rfl
@[simp] theorem State.cacheLine_fb (s : State) (l : Fin 4) (c : Vector Byte 20) : (s.cacheLine l c).fb = s.fb := rfl
@[simp] theorem State.cacheLine_ver (s : State) (l : Fin 4) (c : Vector Byte 20) : (s.cacheLine l c).ver = s.ver := rfl
@[simp] theorem State.cacheLine_sent (s : State) (l : Fin 4) (c : Vector Byte 20) : (s.cacheLine l c).sent = s.sent := rfl
@[simp] theorem State.cacheLine_linebuf (s : State) (l : Fin 4) (c : Vector Byte 20) : (s.cacheLine l c).linebuf = s.linebuf.set l.val c l.isLt := rfl
@[simp] theorem State.cacheLine_cacheValid (s : State) (l : Fin 4) (c : Vector Byte 20) : (s.cacheLine l c).cacheValid = s.cacheValid.set l.val true l.isLt := rfl
@[simp] theorem State.cacheLine_task (s : State) (l : Fin 4) (c : Vector Byte 20) : (s.cacheLine l c).task = s.task := rfl
@[simp] theorem State.cacheLine_cfg (s : State) (l : Fin 4) (c : Vector Byte 20) : (s.cacheLine l c).cfg = s.cfg := rfl
@[simp] theorem State.cacheLine_fresh (s : State) (l : Fin 4) (c : Vector Byte 20) : (s.cacheLine l c).fresh = s.fresh := rfl
@[simp] theorem State.cacheLine_pending (s : State) (l : Fin 4) (c : Vector Byte 20) : (s.cacheLine l c).pending = s.pending := rfl
@[simp] theorem State.cacheLine_replies (s : State) (l : Fin 4) (c : Vector Byte 20) : (s.cacheLine l c).replies = s.replies := rfl
@[simp] theorem State.cacheLine_keyReads (s : State) (l : Fin 4) (c : Vector Byte 20) : (s.cacheLine l c).keyReads = s.keyReads := rfl
@[simp] theorem State.cacheLine_out (s : State) (l : Fin 4) (c : Vector Byte 20) : (s.cacheLine l c).out = s.out := rfl
@[simp] theorem State.cacheLine_slot (s : State) (l : Fin 4) (c : Vector Byte 20) (j : Fin 3) : (s.cacheLine l c).slot j = s.slot j := rfl
@[simp] theorem State.cacheLine_canvas (s : State) (l : Fin 4) (c : Vector Byte 20) : (s.cacheLine l c).canvas = s.canvas := rfl

/-! ### `txPut` -/

@[simp] theorem State.txPut_slots (s : State) (b : Byte) : (s.txPut b).slots = s.slots := rfl
@[simp] theorem State.txPut_rxState (s : State) (b : Byte) : (s.txPut b).rxState = s.rxState := rfl
@[simp] theorem State.txPut_delim (s : State) (b : Byte) : (s.txPut b).delim = s.delim := rfl
@[simp] theorem State.txPut_nibCnt (s : State) (b : Byte) : (s.txPut b).nibCnt = s.nibCnt := rfl
@[simp] theorem State.txPut_payCnt (s : State) (b : Byte) : (s.txPut b).payCnt = s.payCnt := rfl
@[simp] theorem State.txPut_rxIdx (s : State) (b : Byte) : (s.txPut b).rxIdx = s.rxIdx := rfl
@[simp] theorem State.txPut_acc (s : State) (b : Byte) : (s.txPut b).acc = s.acc := rfl
@[simp] theorem State.txPut_txIdx (s : State) (b : Byte) : (s.txPut b).txIdx = s.txIdx := rfl
@[simp] theorem State.txPut_txCursor (s : State) (b : Byte) : (s.txPut b).txCursor = s.txCursor := rfl
@[simp] theorem State.txPut_txBuf (s : State) (b : Byte) : (s.txPut b).txBuf = s.txBuf := rfl
@[simp] theorem State.txPut_txLen (s : State) (b : Byte) : (s.txPut b).txLen = s.txLen := rfl
@[simp] theorem State.txPut_txBusy (s : State) (b : Byte) : (s.txPut b).txBusy = true := rfl
@[simp] theorem State.txPut_drainPage (s : State) (b : Byte) : (s.txPut b).drainPage = s.drainPage := rfl
@[simp] theorem State.txPut_drainCol (s : State) (b : Byte) : (s.txPut b).drainCol = s.drainCol := rfl
@[simp] theorem State.txPut_blinkPhase (s : State) (b : Byte) : (s.txPut b).blinkPhase = s.blinkPhase := rfl
@[simp] theorem State.txPut_schedArmed (s : State) (b : Byte) : (s.txPut b).schedArmed = s.schedArmed := rfl
@[simp] theorem State.txPut_layout (s : State) (b : Byte) : (s.txPut b).layout = s.layout := rfl
@[simp] theorem State.txPut_fb (s : State) (b : Byte) : (s.txPut b).fb = s.fb := rfl
@[simp] theorem State.txPut_ver (s : State) (b : Byte) : (s.txPut b).ver = s.ver := rfl
@[simp] theorem State.txPut_sent (s : State) (b : Byte) : (s.txPut b).sent = s.sent := rfl
@[simp] theorem State.txPut_linebuf (s : State) (b : Byte) : (s.txPut b).linebuf = s.linebuf := rfl
@[simp] theorem State.txPut_cacheValid (s : State) (b : Byte) : (s.txPut b).cacheValid = s.cacheValid := rfl
@[simp] theorem State.txPut_task (s : State) (b : Byte) : (s.txPut b).task = s.task := rfl
@[simp] theorem State.txPut_cfg (s : State) (b : Byte) : (s.txPut b).cfg = s.cfg := rfl
@[simp] theorem State.txPut_fresh (s : State) (b : Byte) : (s.txPut b).fresh = s.fresh := rfl
@[simp] theorem State.txPut_pending (s : State) (b : Byte) : (s.txPut b).pending = s.pending := rfl
@[simp] theorem State.txPut_replies (s : State) (b : Byte) : (s.txPut b).replies = s.replies := rfl
@[simp] theorem State.txPut_keyReads (s : State) (b : Byte) : (s.txPut b).keyReads = s.keyReads := rfl
@[simp] theorem State.txPut_out (s : State) (b : Byte) : (s.txPut b).out = s.out ++ [.txPut b] := rfl
@[simp] theorem State.txPut_slot (s : State) (b : Byte) (j : Fin 3) : (s.txPut b).slot j = s.slot j := rfl
@[simp] theorem State.txPut_canvas (s : State) (b : Byte) : (s.txPut b).canvas = s.canvas := rfl

/-! ### `txFill` -/

@[simp] theorem State.txFill_slots (s : State) (i : Fin 3) : (s.txFill i).slots = s.slots := rfl
@[simp] theorem State.txFill_rxState (s : State) (i : Fin 3) : (s.txFill i).rxState = s.rxState := rfl
@[simp] theorem State.txFill_delim (s : State) (i : Fin 3) : (s.txFill i).delim = s.delim := rfl
@[simp] theorem State.txFill_nibCnt (s : State) (i : Fin 3) : (s.txFill i).nibCnt = s.nibCnt := rfl
@[simp] theorem State.txFill_payCnt (s : State) (i : Fin 3) : (s.txFill i).payCnt = s.payCnt := rfl
@[simp] theorem State.txFill_rxIdx (s : State) (i : Fin 3) : (s.txFill i).rxIdx = s.rxIdx := rfl
@[simp] theorem State.txFill_acc (s : State) (i : Fin 3) : (s.txFill i).acc = s.acc := rfl
@[simp] theorem State.txFill_txIdx (s : State) (i : Fin 3) : (s.txFill i).txIdx = s.txIdx := rfl
@[simp] theorem State.txFill_txCursor (s : State) (i : Fin 3) : (s.txFill i).txCursor = s.txCursor := rfl
@[simp] theorem State.txFill_txBuf (s : State) (i : Fin 3) : (s.txFill i).txBuf = overwrite s.txBuf 0 (responseBytes s.cfg (s.slot i)) := rfl
@[simp] theorem State.txFill_txLen (s : State) (i : Fin 3) : (s.txFill i).txLen = BitVec.ofNat 4 (10 + 2 * respLen s.cfg (s.slot i).cmd) := rfl
@[simp] theorem State.txFill_txBusy (s : State) (i : Fin 3) : (s.txFill i).txBusy = s.txBusy := rfl
@[simp] theorem State.txFill_drainPage (s : State) (i : Fin 3) : (s.txFill i).drainPage = s.drainPage := rfl
@[simp] theorem State.txFill_drainCol (s : State) (i : Fin 3) : (s.txFill i).drainCol = s.drainCol := rfl
@[simp] theorem State.txFill_blinkPhase (s : State) (i : Fin 3) : (s.txFill i).blinkPhase = s.blinkPhase := rfl
@[simp] theorem State.txFill_schedArmed (s : State) (i : Fin 3) : (s.txFill i).schedArmed = s.schedArmed := rfl
@[simp] theorem State.txFill_layout (s : State) (i : Fin 3) : (s.txFill i).layout = s.layout := rfl
@[simp] theorem State.txFill_fb (s : State) (i : Fin 3) : (s.txFill i).fb = s.fb := rfl
@[simp] theorem State.txFill_ver (s : State) (i : Fin 3) : (s.txFill i).ver = s.ver := rfl
@[simp] theorem State.txFill_sent (s : State) (i : Fin 3) : (s.txFill i).sent = s.sent := rfl
@[simp] theorem State.txFill_linebuf (s : State) (i : Fin 3) : (s.txFill i).linebuf = s.linebuf := rfl
@[simp] theorem State.txFill_cacheValid (s : State) (i : Fin 3) : (s.txFill i).cacheValid = s.cacheValid := rfl
@[simp] theorem State.txFill_task (s : State) (i : Fin 3) : (s.txFill i).task = s.task := rfl
@[simp] theorem State.txFill_cfg (s : State) (i : Fin 3) : (s.txFill i).cfg = s.cfg := rfl
@[simp] theorem State.txFill_fresh (s : State) (i : Fin 3) : (s.txFill i).fresh = s.fresh := rfl
@[simp] theorem State.txFill_pending (s : State) (i : Fin 3) : (s.txFill i).pending = s.pending := rfl
@[simp] theorem State.txFill_replies (s : State) (i : Fin 3) : (s.txFill i).replies = s.replies := rfl
@[simp] theorem State.txFill_keyReads (s : State) (i : Fin 3) : (s.txFill i).keyReads = s.keyReads := rfl
@[simp] theorem State.txFill_out (s : State) (i : Fin 3) : (s.txFill i).out = s.out := rfl
@[simp] theorem State.txFill_slot (s : State) (i : Fin 3) (j : Fin 3) : (s.txFill i).slot j = s.slot j := rfl
@[simp] theorem State.txFill_canvas (s : State) (i : Fin 3) : (s.txFill i).canvas = s.canvas := rfl

/-! ### `toCrcField` -/

@[simp] theorem State.toCrcField_slots (s : State) : (s.toCrcField).slots = s.slots.set s.rxIdx.val { s.slot s.rxIdx with crcRx := 0 } s.rxIdx.isLt := rfl
@[simp] theorem State.toCrcField_rxState (s : State) : (s.toCrcField).rxState = .vcrc := rfl
@[simp] theorem State.toCrcField_delim (s : State) : (s.toCrcField).delim = s.delim := rfl
@[simp] theorem State.toCrcField_nibCnt (s : State) : (s.toCrcField).nibCnt = 0 := rfl
@[simp] theorem State.toCrcField_payCnt (s : State) : (s.toCrcField).payCnt = s.payCnt := rfl
@[simp] theorem State.toCrcField_rxIdx (s : State) : (s.toCrcField).rxIdx = s.rxIdx := rfl
@[simp] theorem State.toCrcField_acc (s : State) : (s.toCrcField).acc = s.acc := rfl
@[simp] theorem State.toCrcField_txIdx (s : State) : (s.toCrcField).txIdx = s.txIdx := rfl
@[simp] theorem State.toCrcField_txCursor (s : State) : (s.toCrcField).txCursor = s.txCursor := rfl
@[simp] theorem State.toCrcField_txBuf (s : State) : (s.toCrcField).txBuf = s.txBuf := rfl
@[simp] theorem State.toCrcField_txLen (s : State) : (s.toCrcField).txLen = s.txLen := rfl
@[simp] theorem State.toCrcField_txBusy (s : State) : (s.toCrcField).txBusy = s.txBusy := rfl
@[simp] theorem State.toCrcField_drainPage (s : State) : (s.toCrcField).drainPage = s.drainPage := rfl
@[simp] theorem State.toCrcField_drainCol (s : State) : (s.toCrcField).drainCol = s.drainCol := rfl
@[simp] theorem State.toCrcField_blinkPhase (s : State) : (s.toCrcField).blinkPhase = s.blinkPhase := rfl
@[simp] theorem State.toCrcField_schedArmed (s : State) : (s.toCrcField).schedArmed = s.schedArmed := rfl
@[simp] theorem State.toCrcField_layout (s : State) : (s.toCrcField).layout = s.layout := rfl
@[simp] theorem State.toCrcField_fb (s : State) : (s.toCrcField).fb = s.fb := rfl
@[simp] theorem State.toCrcField_ver (s : State) : (s.toCrcField).ver = s.ver := rfl
@[simp] theorem State.toCrcField_sent (s : State) : (s.toCrcField).sent = s.sent := rfl
@[simp] theorem State.toCrcField_linebuf (s : State) : (s.toCrcField).linebuf = s.linebuf := rfl
@[simp] theorem State.toCrcField_cacheValid (s : State) : (s.toCrcField).cacheValid = s.cacheValid := rfl
@[simp] theorem State.toCrcField_task (s : State) : (s.toCrcField).task = s.task := rfl
@[simp] theorem State.toCrcField_cfg (s : State) : (s.toCrcField).cfg = s.cfg := rfl
@[simp] theorem State.toCrcField_fresh (s : State) : (s.toCrcField).fresh = s.fresh := rfl
@[simp] theorem State.toCrcField_pending (s : State) : (s.toCrcField).pending = s.pending := rfl
@[simp] theorem State.toCrcField_replies (s : State) : (s.toCrcField).replies = s.replies := rfl
@[simp] theorem State.toCrcField_keyReads (s : State) : (s.toCrcField).keyReads = s.keyReads := rfl
@[simp] theorem State.toCrcField_out (s : State) : (s.toCrcField).out = s.out := rfl
@[simp] theorem State.toCrcField_canvas (s : State) : (s.toCrcField).canvas = s.canvas := rfl

end Sys2Proof.Machine
end

