-- ==== Sys2Proof/Laws/Memory.lean ====
section
/-! SUPPORT. The framebuffer as a memory: reading after writing, two canonical memories that read alike are equal, and
every operation that writes the framebuffer keeps its canonical form. -/

namespace Sys2Proof.Machine

/-! ### One byte -/

@[simp] theorem Memory.readAt_nil (k : Nat) : Memory.readAt [] k = 0 := rfl

/-- Below its first address a canonical memory reads as unlisted. -/
theorem Memory.readAt_below {lo : Nat} {m : Memory} (h : Memory.wfFrom lo m = true) {k : Nat} (hk : k < lo) :
    m.readAt k = 0 := by
  induction m generalizing lo with
  | nil => rfl
  | cons c rest ih =>
    obtain ⟨a, v⟩ := c
    simp only [Memory.wfFrom, Bool.and_eq_true, decide_eq_true_eq] at h
    obtain ⟨⟨⟨hlo, -⟩, -⟩, hrest⟩ := h
    have : k ≠ a := by omega
    simp only [Memory.readAt, this, if_false]
    exact ih hrest (by omega)

/-- A canonical memory stays canonical from any lower bound. -/
theorem Memory.wfFrom_mono {lo lo' : Nat} {m : Memory} (h : Memory.wfFrom lo m = true) (hl : lo' ≤ lo) :
    Memory.wfFrom lo' m = true := by
  cases m with
  | nil => rfl
  | cons c rest =>
    obtain ⟨a, v⟩ := c
    simp only [Memory.wfFrom, Bool.and_eq_true, decide_eq_true_eq] at h ⊢
    exact ⟨⟨⟨by omega, h.1.1.2⟩, h.1.2⟩, h.2⟩

/-- Writing one address leaves every other address as it reads. -/
theorem Memory.readAt_writeAt_other (m : Memory) {k j : Nat} (x : Byte) (h : j ≠ k) :
    (m.writeAt k x).readAt j = m.readAt j := by
  induction m with
  | nil => simp only [Memory.writeAt]; split <;> simp [Memory.readAt, h, Memory.unlisted]
  | cons c rest ih =>
    obtain ⟨a, v⟩ := c
    simp only [Memory.writeAt]
    split
    · split
      · rfl
      · simp [Memory.readAt, h]
    · split
      · next hka =>
        subst hka
        split <;> simp [Memory.readAt, h]
      · simp only [Memory.readAt]
        split
        · rfl
        · exact ih

/-- An address reads as what was last written to it. -/
theorem Memory.readAt_writeAt_same {lo : Nat} {m : Memory} (hm : Memory.wfFrom lo m = true) (k : Nat) (x : Byte) :
    (m.writeAt k x).readAt k = x := by
  induction m generalizing lo with
  | nil =>
    simp only [Memory.writeAt]
    split
    · next h => simp [h, Memory.unlisted]
    · simp [Memory.readAt]
  | cons c rest ih =>
    obtain ⟨a, v⟩ := c
    have hrest : Memory.wfFrom (a + 1) rest = true := by
      simp only [Memory.wfFrom, Bool.and_eq_true] at hm; exact hm.2
    simp only [Memory.writeAt]
    split
    · next hka =>
      split
      · next hx =>
        have : k ≠ a := by omega
        simp only [Memory.readAt, this, if_false]
        rw [Memory.readAt_below hrest (by omega), hx]; rfl
      · simp [Memory.readAt]
    · split
      · next hka =>
        subst hka
        split
        · next hx => rw [Memory.readAt_below hrest (by omega), hx]; rfl
        · simp [Memory.readAt]
      · next hne =>
        simp only [Memory.readAt, hne, if_false]
        exact ih hrest

/-- Reading after writing. -/
theorem Memory.readAt_writeAt {m : Memory} (hm : m.wf = true) (k j : Nat) (x : Byte) :
    (m.writeAt k x).readAt j = if j = k then x else m.readAt j := by
  split
  · next h => subst h; exact Memory.readAt_writeAt_same hm j x
  · next h => exact Memory.readAt_writeAt_other m x h

/-- Writing an address of the framebuffer keeps the canonical form. -/
theorem Memory.writeAt_wfFrom {lo : Nat} {m : Memory} (hm : Memory.wfFrom lo m = true) {k : Nat} (hlo : lo ≤ k)
    (hk : k < N_COLS * N_PAGES) (x : Byte) : Memory.wfFrom lo (m.writeAt k x) = true := by
  induction m generalizing lo with
  | nil =>
    simp only [Memory.writeAt]
    split
    · rfl
    · next hx => simp [Memory.wfFrom, hlo, hk, hx]
  | cons c rest ih =>
    obtain ⟨a, v⟩ := c
    have h0 := hm
    simp only [Memory.wfFrom, Bool.and_eq_true, decide_eq_true_eq] at hm
    obtain ⟨⟨⟨h1, h2⟩, h3⟩, h4⟩ := hm
    simp only [Memory.writeAt]
    split
    · next hka =>
      split
      · exact h0
      · next hx =>
        simp only [Memory.wfFrom, Bool.and_eq_true, decide_eq_true_eq]
        exact ⟨⟨⟨hlo, hk⟩, by simpa using hx⟩, ⟨⟨⟨by omega, h2⟩, h3⟩, h4⟩⟩
    · split
      · next hka =>
        subst hka
        split
        · exact Memory.wfFrom_mono h4 (by omega)
        · next hx =>
          simp only [Memory.wfFrom, Bool.and_eq_true, decide_eq_true_eq]
          exact ⟨⟨⟨hlo, hk⟩, by simpa using hx⟩, h4⟩
      · simp only [Memory.wfFrom, Bool.and_eq_true, decide_eq_true_eq]
        exact ⟨⟨⟨h1, h2⟩, h3⟩, ih h4 (by omega)⟩

/-- Two canonical memories that read alike are equal. -/
theorem Memory.ext_wfFrom {lo : Nat} {m m' : Memory} (hm : Memory.wfFrom lo m = true) (hm' : Memory.wfFrom lo m' = true)
    (h : ∀ k, m.readAt k = m'.readAt k) : m = m' := by
  induction m generalizing lo m' with
  | nil =>
    cases m' with
    | nil => rfl
    | cons c rest =>
      obtain ⟨a, v⟩ := c
      simp only [Memory.wfFrom, Bool.and_eq_true, decide_eq_true_eq, bne_iff_ne, ne_eq] at hm'
      have := h a
      simp [Memory.readAt] at this
      exact absurd this.symm hm'.1.2
  | cons c rest ih =>
    obtain ⟨a, v⟩ := c
    simp only [Memory.wfFrom, Bool.and_eq_true, decide_eq_true_eq, bne_iff_ne, ne_eq] at hm
    obtain ⟨⟨⟨h1, h2⟩, h3⟩, h4⟩ := hm
    cases m' with
    | nil =>
      have := h a
      simp [Memory.readAt] at this
      exact absurd this h3
    | cons c' rest' =>
      obtain ⟨a', v'⟩ := c'
      simp only [Memory.wfFrom, Bool.and_eq_true, decide_eq_true_eq, bne_iff_ne, ne_eq] at hm'
      obtain ⟨⟨⟨h1', h2'⟩, h3'⟩, h4'⟩ := hm'
      have haa : a = a' := by
        rcases Nat.lt_trichotomy a a' with hlt | heq | hgt
        · have := h a
          have hne : a ≠ a' := by omega
          simp only [Memory.readAt, if_true, hne, if_false] at this
          rw [Memory.readAt_below h4' (by omega)] at this
          exact absurd this h3
        · exact heq
        · have := h a'
          have hne : a' ≠ a := by omega
          simp only [Memory.readAt, if_true, hne, if_false] at this
          rw [Memory.readAt_below h4 (by omega)] at this
          exact absurd this.symm h3'
      subst haa
      have hvv : v = v' := by simpa [Memory.readAt] using h a
      subst hvv
      congr 1
      apply ih h4 h4'
      intro k
      by_cases hk : k = a
      · subst hk
        rw [Memory.readAt_below h4 (by omega), Memory.readAt_below h4' (by omega)]
      · simpa [Memory.readAt, hk] using h k

theorem Memory.ext_wf {m m' : Memory} (hm : m.wf = true) (hm' : m'.wf = true) (h : ∀ k, m.readAt k = m'.readAt k) :
    m = m' := Memory.ext_wfFrom hm hm' h

/-! ### The byte at a page and a column -/

theorem fbAddr_inj {p c p' c' : Nat} (hc : c < N_COLS) (hc' : c' < N_COLS) :
    fbAddr p c = fbAddr p' c' ↔ p = p' ∧ c = c' := by
  simp only [fbAddr, N_COLS] at *
  omega

/-- `MemRead` after `MemWrite`, both in the range of R66. -/
theorem memRead_memWrite {m : Memory} (hm : m.wf = true) {p c p' c' : Nat} (hc : c < N_COLS) (hc' : c' < N_COLS)
    (x : Byte) : memRead (memWrite m p c x) p' c' = if p' = p ∧ c' = c then x else memRead m p' c' := by
  simp only [memRead, memWrite, Memory.readAt_writeAt hm, fbAddr_inj hc' hc]

theorem memWrite_wf {m : Memory} (hm : m.wf = true) {p c : Nat} (hp : p < N_PAGES) (hc : c < N_COLS) (x : Byte) :
    (memWrite m p c x).wf = true := by
  apply Memory.writeAt_wfFrom hm (Nat.zero_le _)
  simp only [fbAddr, N_COLS, N_PAGES] at *
  omega

/-! ### The canonical form through every operation that writes the framebuffer -/

theorem writeBitsLoop_wf (vb : Nat) {col : Nat} (hcol : col < N_COLS) (fuel v g rem : Nat) (cv : Canvas)
    (h : cv.fb.wf = true) : (writeBitsLoop vb col fuel v g rem cv).fb.wf = true := by
  induction fuel generalizing v g rem cv with
  | zero => exact h
  | succ n ih =>
    simp only [writeBitsLoop]
    split
    · next hc =>
      apply ih
      apply memWrite_wf h _ hcol
      have := hc.2
      simp only [FB_ROWS, N_PAGES] at *
      omega
    · exact h

theorem writeBits_wf (vb v s w c : Nat) (cv : Canvas) (h : cv.fb.wf = true) : (writeBits vb v s w c cv).fb.wf = true := by
  simp only [writeBits]
  split
  · exact h
  · exact writeBitsLoop_wf vb (by omega) _ _ _ _ cv h

theorem blankCol_wf (cfg : Config) (x : LineCtx) (c : Nat) (cv : Canvas) (h : cv.fb.wf = true) :
    (blankCol cfg x c cv).fb.wf = true := writeBits_wf _ _ _ _ _ cv h

theorem blankCols_wf (cfg : Config) (x : LineCtx) (n c : Nat) (cv : Canvas) (h : cv.fb.wf = true) :
    (blankCols cfg x n c cv).fb.wf = true := by
  induction n generalizing c cv with
  | zero => exact h
  | succ n ih => exact ih _ _ (blankCol_wf cfg x c cv h)

theorem blitCols_wf (cfg : Config) (x : LineCtx) (code : Byte) (n j c : Nat) (cv : Canvas) (h : cv.fb.wf = true) :
    (blitCols cfg x code n j c cv).fb.wf = true := by
  induction n generalizing j c cv with
  | zero => exact h
  | succ n ih => exact ih _ _ _ (writeBits_wf _ _ _ _ _ cv h)

theorem stuffChar_wf (cfg : Config) (x : LineCtx) (code : Byte) (c hi : Nat) (cv : Canvas) (h : cv.fb.wf = true) :
    (stuffChar cfg x code c hi cv).fb.wf = true := by
  simp only [stuffChar]
  split
  · exact h
  · exact blitCols_wf cfg x code _ _ _ cv h

theorem drawText_wf (cfg : Config) (x : LineCtx) (hi : Nat) (ts : List Byte) (d : Drawn) (h : d.cv.fb.wf = true) :
    (drawText cfg x hi ts d).cv.fb.wf = true := by
  induction ts generalizing d with
  | nil => exact h
  | cons t ts ih => exact ih _ (stuffChar_wf _ _ _ _ _ _ (blankCol_wf _ _ _ _ h))

theorem drawRight_wf (cfg : Config) (x : LineCtx) (code : Byte) (d : Drawn) (h : d.cv.fb.wf = true) :
    (drawRight cfg x code d).cv.fb.wf = true := by
  simp only [drawRight]
  split
  · exact blankCols_wf _ _ _ _ _ (stuffChar_wf _ _ _ _ _ _ h)
  · exact h

theorem drawLine_wf (cfg : Config) (x : LineCtx) (content : Vector Byte 20) (cv : Canvas) (h : cv.fb.wf = true) :
    (drawLine cfg x content cv).1.fb.wf = true :=
  blankCols_wf _ _ _ _ _ (drawText_wf _ _ _ _ _ (blankCols_wf _ _ _ _ _ (drawRight_wf _ _ _ _ (stuffChar_wf _ _ _ _ _ _ h))))

theorem qrCols_wf (cfg : Config) (v off : Nat) (k : Byte) {row : Nat} (hr : row < N_PAGES) (n c : Nat) (m : Memory)
    (hc : off + (c + n) ≤ N_COLS) (h : m.wf = true) : (qrCols cfg v off k row n c m).wf = true := by
  induction n generalizing c m with
  | zero => exact h
  | succ n ih => exact ih _ _ (by omega) (memWrite_wf h hr (by omega) _)

theorem qrRows_wf (cfg : Config) (v : Nat) {off : Nat} (k : Byte) (hoff : off + QR_W ≤ N_COLS) (n row : Nat) (cv : Canvas)
    (hr : row + n ≤ N_PAGES) (h : cv.fb.wf = true) : (qrRows cfg v off k n row cv).fb.wf = true := by
  induction n generalizing row cv with
  | zero => exact h
  | succ n ih =>
    rw [qrRows]
    refine ih _ _ (by omega) ?_
    dsimp only
    apply qrCols_wf
    · omega
    · omega
    · exact h

theorem clearCols_wf {p : Nat} (hp : p < N_PAGES) (n c : Nat) (m : Memory) (hc : c + n ≤ N_COLS) (h : m.wf = true) :
    (clearCols p n c m).wf = true := by
  induction n generalizing c m with
  | zero => exact h
  | succ n ih => exact ih _ _ (by omega) (memWrite_wf h hp (by omega) _)

theorem clearPages_wf (vb n p : Nat) (cv : Canvas) (hp : p + n ≤ N_PAGES) (h : cv.fb.wf = true) :
    (clearPages vb n p cv).fb.wf = true := by
  induction n generalizing p cv with
  | zero => exact h
  | succ n ih =>
    rw [clearPages]
    refine ih _ _ (by omega) ?_
    dsimp only
    apply clearCols_wf
    · omega
    · omega
    · exact h

/-! ### The same for whole operations on the state -/

theorem State.renderLine_fbInv (s : State) (line : Fin 4) (content : Vector Byte 20) (b : Bool) (h : s.fbInv) :
    (s.renderLine line content b).fbInv := by
  have hd := drawLine_wf s.cfg (s.lineCtx line content[1]) content s.canvas h
  simp only [State.renderLine, State.updateTask]
  split
  · exact hd
  · split
    · split <;> exact hd
    · exact hd

theorem State.putLine_fbInv (s : State) (text : List Byte) (line : Nat) (h : s.fbInv) : (s.putLine text line).1.fbInv := by
  simp only [State.putLine]
  split
  · simp only [State.putLineAt]
    split
    · exact h
    · exact State.renderLine_fbInv _ _ _ _ h
  · exact h

theorem State.putQr_fbInv (s : State) (v off : Nat) (k : Byte) (h : s.fbInv) : (s.putQr v off k).1.fbInv := by
  simp only [State.putQr]
  split
  · exact h
  · next hoff =>
    unfold State.fbInv
    rw [State.withCanvas_fb]
    apply qrRows_wf
    · omega
    · exact Nat.le_refl _
    · exact h

theorem State.fbClear_fbInv (s : State) (h : s.fbInv) : s.fbClear.fbInv := by
  unfold State.fbInv State.fbClear
  rw [State.withCanvas_fb]
  apply clearPages_wf
  · exact Nat.le_refl _
  · exact h

theorem State.tickLine_fbInv (s : State) (line : Fin 4) (h : s.fbInv) : (s.tickLine line).fbInv := by
  simp only [State.tickLine]
  split
  · exact stuffChar_wf _ _ _ _ _ s.canvas h
  · exact h

theorem State.blinkTick_fbInv (s : State) (h : s.fbInv) : s.blinkTick.fbInv :=
  State.tickLine_fbInv _ _ (State.tickLine_fbInv _ _ (State.tickLine_fbInv _ _ (State.tickLine_fbInv _ _ h)))

theorem State.runCall_fbInv (s : State) (c : RenderCall) (h : s.fbInv) : (s.runCall c).fbInv := by
  cases c with
  | putLine text line => exact State.putLine_fbInv s text line h
  | renderLine line content b => exact State.renderLine_fbInv s line content b h
  | putQr v off k => exact State.putQr_fbInv s v off k h
  | fbClear => exact State.fbClear_fbInv s h

/-- The framebuffer after reset has the canonical form. -/
theorem State.reset_fbInv : State.reset.fbInv := rfl

end Sys2Proof.Machine
end

