-- ==== Sys2Proof/Laws/Ops.lean ====
section
/-! SUPPORT. One lemma for each shared operation: what it can change (everything else stands as it stood), and the cases of
the operations that branch. -/

namespace Sys2Proof.Machine

/-! ### The catalog's lengths -/

/-- A request payload fits a slot's 20 bytes, for every id (R18, R24). -/
theorem reqLen_le (cfg : Config) (id : Byte) : reqLen cfg id ≤ 20 := by
  unfold reqLen
  split
  · rename_i c _; cases c <;> decide
  · split
    · omega
    · omega

/-- A response payload fits a slot's 2 bytes, for every id (R18, R25). -/
theorem respLen_le (cfg : Config) (id : Byte) : respLen cfg id ≤ 2 := by
  unfold respLen
  split
  · rename_i c _; cases c <;> decide
  · split
    · omega
    · omega

/-- A payload byte that is there is read as it is. -/
theorem payloadByte_of_lt (id : Byte) (p : List Byte) (k : Nat) (h : k < p.length) : payloadByte id p k = p[k] := by
  simp [payloadByte, h]

/-! ### Rendering -/

theorem State.updateTask_frame (s : State) (line : Fin 4) (x : LineCtx) (b : Bool) (r : Option BlinkRec) :
    s.updateTask line x b r =
      { s with
        task := (s.updateTask line x b r).task
        schedArmed := (s.updateTask line x b r).schedArmed
        out := (s.updateTask line x b r).out } := by
  cases r with
  | none => rfl
  | some r =>
    simp only [State.updateTask]
    split
    · split <;> rfl
    · rfl

/-- `RENDER_LINE` changes the canvas, the line's task and the scheduler request, and nothing else. -/
theorem State.renderLine_frame (s : State) (line : Fin 4) (content : Vector Byte 20) (b : Bool) :
    s.renderLine line content b =
      { s with
        fb := (s.renderLine line content b).fb
        ver := (s.renderLine line content b).ver
        task := (s.renderLine line content b).task
        schedArmed := (s.renderLine line content b).schedArmed
        out := (s.renderLine line content b).out } := by
  unfold State.renderLine
  dsimp only
  rw [State.updateTask_frame]
  rfl

theorem State.putLineAt_frame (s : State) (line : Fin 4) (content : Vector Byte 20) :
    s.putLineAt line content =
      { s with
        fb := (s.putLineAt line content).fb
        ver := (s.putLineAt line content).ver
        task := (s.putLineAt line content).task
        schedArmed := (s.putLineAt line content).schedArmed
        out := (s.putLineAt line content).out
        linebuf := (s.putLineAt line content).linebuf
        cacheValid := (s.putLineAt line content).cacheValid } := by
  unfold State.putLineAt
  split
  · rfl
  · rw [State.renderLine_frame]; rfl

/-- `PUT_LINE`: a rejected call changes nothing; an accepted one is `putLineAt` on the padded text. -/
theorem State.putLine_cases (s : State) (text : List Byte) (line : Nat) :
    ((N_LINES ≤ line ∨ LINE_BUDGET < text.length) ∧ s.putLine text line = (s, false)) ∨
    (∃ h : line < 4, text.length ≤ LINE_BUDGET ∧
      s.putLine text line = (s.putLineAt ⟨line, h⟩ (padLine text), true)) := by
  unfold State.putLine
  split
  · next h => exact .inr ⟨h.1, h.2, rfl⟩
  · next h =>
    refine .inl ⟨?_, rfl⟩
    simp only [N_LINES, LINE_BUDGET] at h ⊢
    omega

theorem State.putLine_frame (s : State) (text : List Byte) (line : Nat) :
    (s.putLine text line).1 =
      { s with
        fb := (s.putLine text line).1.fb
        ver := (s.putLine text line).1.ver
        task := (s.putLine text line).1.task
        schedArmed := (s.putLine text line).1.schedArmed
        out := (s.putLine text line).1.out
        linebuf := (s.putLine text line).1.linebuf
        cacheValid := (s.putLine text line).1.cacheValid } := by
  rcases s.putLine_cases text line with ⟨-, h⟩ | ⟨h4, -, h⟩
  · rw [h]
  · rw [h]; exact State.putLineAt_frame s _ _

theorem State.withCanvas_frame (s : State) (cv : Canvas) :
    s.withCanvas cv = { s with fb := (s.withCanvas cv).fb, ver := (s.withCanvas cv).ver } := rfl

theorem State.putQr_frame (s : State) (v off : Nat) (k : Byte) :
    (s.putQr v off k).1 = { s with fb := (s.putQr v off k).1.fb, ver := (s.putQr v off k).1.ver } := by
  unfold State.putQr
  split
  · rfl
  · exact State.withCanvas_frame s _

theorem State.fbClear_frame (s : State) :
    s.fbClear =
      { s with
        fb := s.fbClear.fb
        ver := s.fbClear.ver
        task := s.fbClear.task
        linebuf := Vector.replicate 4 (Vector.replicate 20 0)
        cacheValid := Vector.replicate 4 false } := by
  have h : ∀ cv : Canvas,
      ({ s.withCanvas cv with
        linebuf := Vector.replicate 4 (Vector.replicate 20 0)
        cacheValid := Vector.replicate 4 false
        task := s.task.map fun t => { t with live := false } } : State) =
      { s with
        fb := cv.fb
        ver := cv.ver
        task := s.task.map fun t => { t with live := false }
        linebuf := Vector.replicate 4 (Vector.replicate 20 0)
        cacheValid := Vector.replicate 4 false } := fun _ => rfl
  unfold State.fbClear
  rw [h]

theorem State.tickLine_frame (s : State) (line : Fin 4) :
    s.tickLine line =
      { s with fb := (s.tickLine line).fb, ver := (s.tickLine line).ver, task := (s.tickLine line).task } := by
  unfold State.tickLine
  split <;> rfl

/-- `BLINK_TICK` changes the phase, the tasks and the canvas, and nothing else. -/
theorem State.blinkTick_frame (s : State) :
    s.blinkTick =
      { s with
        blinkPhase := !s.blinkPhase
        fb := s.blinkTick.fb
        ver := s.blinkTick.ver
        task := s.blinkTick.task } := by
  unfold State.blinkTick
  rw [State.tickLine_frame, State.tickLine_frame _ 2, State.tickLine_frame _ 1, State.tickLine_frame _ 0]
  rfl

/-! ### The dispatcher port -/

/-- What the dispatcher's rendering may change. -/
theorem State.runCall_frame (s : State) (c : RenderCall) :
    s.runCall c =
      { s with
        fb := (s.runCall c).fb
        ver := (s.runCall c).ver
        task := (s.runCall c).task
        schedArmed := (s.runCall c).schedArmed
        out := (s.runCall c).out
        linebuf := (s.runCall c).linebuf
        cacheValid := (s.runCall c).cacheValid } := by
  cases c with
  | putLine text line => exact State.putLine_frame s text line
  | renderLine line content b => simp only [State.runCall]; rw [State.renderLine_frame]
  | putQr v off k => simp only [State.runCall]; rw [State.putQr_frame]
  | fbClear => simp only [State.runCall]; rw [State.fbClear_frame]

theorem State.runCalls_frame (cs : List RenderCall) (s : State) :
    cs.foldl State.runCall s =
      { s with
        fb := (cs.foldl State.runCall s).fb
        ver := (cs.foldl State.runCall s).ver
        task := (cs.foldl State.runCall s).task
        schedArmed := (cs.foldl State.runCall s).schedArmed
        out := (cs.foldl State.runCall s).out
        linebuf := (cs.foldl State.runCall s).linebuf
        cacheValid := (cs.foldl State.runCall s).cacheValid } := by
  induction cs generalizing s with
  | nil => rfl
  | cons c cs ih =>
    rw [List.foldl_cons, ih (s.runCall c), State.runCall_frame s c]

theorem State.referenceDispatch_frame (s : State) (id : Byte) (p : List Byte) :
    (s.referenceDispatch id p).1 =
      { s with
        fb := (s.referenceDispatch id p).1.fb
        ver := (s.referenceDispatch id p).1.ver
        task := (s.referenceDispatch id p).1.task
        schedArmed := (s.referenceDispatch id p).1.schedArmed
        out := (s.referenceDispatch id p).1.out
        linebuf := (s.referenceDispatch id p).1.linebuf
        cacheValid := (s.referenceDispatch id p).1.cacheValid
        keyReads := (s.referenceDispatch id p).1.keyReads } := by
  unfold State.referenceDispatch
  split
  · rfl
  · dsimp only; rw [State.putLine_frame]
  · rfl
  · dsimp only; rw [State.fbClear_frame]
  all_goals rfl

/-- `DISPATCH` never touches a slot, the RX or TX registers, the drain cursor, the phase or the layout. -/
theorem State.dispatch_frame (s : State) (id : Byte) (p : List Byte) :
    (s.dispatch id p).1 =
      { s with
        fb := (s.dispatch id p).1.fb
        ver := (s.dispatch id p).1.ver
        task := (s.dispatch id p).1.task
        schedArmed := (s.dispatch id p).1.schedArmed
        out := (s.dispatch id p).1.out
        linebuf := (s.dispatch id p).1.linebuf
        cacheValid := (s.dispatch id p).1.cacheValid
        keyReads := (s.dispatch id p).1.keyReads
        replies := (s.dispatch id p).1.replies } := by
  unfold State.dispatch
  dsimp only
  split
  · dsimp only; rw [State.runCalls_frame]; rfl
  · rw [State.referenceDispatch_frame]; rfl

/-! ### The response machine -/

/-- The three things `TX_NEXT` can do: nothing; start a slot that is `TO_BE_SEND`; stream a byte of the slot under
`tx_idx`. -/
theorem State.txNext_cases (s : State) :
    ((s.slot s.txIdx).ack.idle = true ∧ (s.slot (ringNext s.txIdx)).ack ≠ .toBeSend ∧ s.txNext = (s, none)) ∨
    (∃ i : Fin 3, (s.slot i).ack = .toBeSend ∧
      (i = s.txIdx ∨ (s.slot s.txIdx).ack.idle = true ∧ i = ringNext s.txIdx) ∧
      s.txNext = ({ s.setAck i .sending with txIdx := i, txCursor := 1 }, some STX)) ∨
    ((s.slot s.txIdx).ack = .sending ∧ s.txNext = s.txStream) := by
  unfold State.txNext State.txSelect
  cases hack : (s.slot s.txIdx).ack <;> simp only [Ack.idle, if_true, if_false, Bool.false_eq_true]
  · by_cases hn : (s.slot (ringNext s.txIdx)).ack = .toBeSend
    · refine .inr (.inl ⟨ringNext s.txIdx, hn, .inr ⟨trivial, rfl⟩, ?_⟩)
      have : ({ s with txIdx := ringNext s.txIdx, txCursor := 0 } : State).slot (ringNext s.txIdx) =
        s.slot (ringNext s.txIdx) := rfl
      simp only [hn, if_true, this]
      rfl
    · simp [hn]
  · refine .inr (.inl ⟨s.txIdx, hack, .inl rfl, ?_⟩)
    simp only [hack, if_true]
    rfl
  · simp [hack]
  · by_cases hn : (s.slot (ringNext s.txIdx)).ack = .toBeSend
    · refine .inr (.inl ⟨ringNext s.txIdx, hn, .inr ⟨trivial, rfl⟩, ?_⟩)
      have : ({ s with txIdx := ringNext s.txIdx, txCursor := 0 } : State).slot (ringNext s.txIdx) =
        s.slot (ringNext s.txIdx) := rfl
      simp only [hn, if_true, this]
      rfl
    · simp [hn]

theorem State.txStream_frame (s : State) :
    s.txStream.1 =
      { s with
        slots := s.txStream.1.slots
        txCursor := s.txStream.1.txCursor
        txBuf := s.txStream.1.txBuf
        txLen := s.txStream.1.txLen } := by
  unfold State.txStream
  dsimp only
  split <;> split <;> rfl

theorem State.txNext_frame (s : State) :
    s.txNext.1 =
      { s with
        slots := s.txNext.1.slots
        txIdx := s.txNext.1.txIdx
        txCursor := s.txNext.1.txCursor
        txBuf := s.txNext.1.txBuf
        txLen := s.txNext.1.txLen } := by
  rcases s.txNext_cases with ⟨-, -, h⟩ | ⟨i, -, -, h⟩ | ⟨-, h⟩
  · rw [h]
  · rw [h]; rfl
  · rw [h, State.txStream_frame]

/-- `TX_PUMP` changes the TX registers, the slots' `ack` and the transmit port only. -/
theorem State.txPump_frame (s : State) :
    s.txPump =
      { s with
        slots := s.txPump.slots
        txIdx := s.txPump.txIdx
        txCursor := s.txPump.txCursor
        txBuf := s.txPump.txBuf
        txLen := s.txPump.txLen
        txBusy := s.txPump.txBusy
        out := s.txPump.out } := by
  have h := s.txNext_frame
  unfold State.txPump
  rcases hn : s.txNext with ⟨s1, _ | b⟩
  · rw [hn] at h
    dsimp only at h ⊢
    rw [h]; rfl
  · rw [hn] at h
    dsimp only at h ⊢
    rw [h]; rfl

theorem State.arm_frame (s : State) (i : Fin 3) :
    s.arm i =
      { s with
        slots := (s.arm i).slots
        txIdx := (s.arm i).txIdx
        txCursor := (s.arm i).txCursor
        txBuf := (s.arm i).txBuf
        txLen := (s.arm i).txLen
        txBusy := (s.arm i).txBusy
        out := (s.arm i).out } := by
  unfold State.arm
  dsimp only
  split
  · rfl
  · rw [State.txPump_frame]; rfl

theorem State.txDone_frame (s : State) :
    s.txDone =
      { s with
        slots := s.txDone.slots
        txIdx := s.txDone.txIdx
        txCursor := s.txDone.txCursor
        txBuf := s.txDone.txBuf
        txLen := s.txDone.txLen
        txBusy := s.txDone.txBusy
        out := s.txDone.out } := by
  unfold State.txDone
  rw [State.txPump_frame]; rfl

/-! ### The error path -/

/-- The error path never writes the framebuffer, the line buffers, the tasks or the drain state (R276 e). -/
theorem State.errorPath_frame (s : State) :
    s.errorPath =
      { s with
        slots := s.errorPath.slots
        rxState := .vf
        delim := false
        nibCnt := 0
        txIdx := s.errorPath.txIdx
        txCursor := s.errorPath.txCursor
        txBuf := s.errorPath.txBuf
        txLen := s.errorPath.txLen
        txBusy := s.errorPath.txBusy
        out := s.errorPath.out } := by
  unfold State.errorPath
  rw [State.arm_frame]; rfl

/-! ### The drain -/

/-- The three things `DRAIN_STEP` can do: skip a clean page; start a dirty one; go on with one. -/
theorem State.drainStep_cases (s : State) :
    (s.drainCol = 0 ∧ s.dirty (pageNext s.drainPage) = false ∧
      s.drainStep = ({ s with drainPage := pageNext s.drainPage }, false)) ∨
    (s.drainCol = 0 ∧ s.dirty (pageNext s.drainPage) = true ∧
      s.drainStep =
        ((({ s with drainPage := pageNext s.drainPage } : State).emit (.ctrlCmd (.pageSelect (pageNext s.drainPage)))).emit
          (.ctrlCmd (.columnAddress 0))).drainColumn) ∨
    (s.drainCol ≠ 0 ∧ s.drainStep = s.drainColumn) := by
  unfold State.drainStep
  by_cases h : s.drainCol = 0
  · have hd : ({ s with drainPage := pageNext s.drainPage } : State).dirty (pageNext s.drainPage) =
      s.dirty (pageNext s.drainPage) := rfl
    cases hc : s.dirty (pageNext s.drainPage)
    · refine .inl ⟨h, rfl, ?_⟩
      rw [if_pos h]
      simp only [hd, hc]
      rfl
    · refine .inr (.inl ⟨h, rfl, ?_⟩)
      rw [if_pos h]
      simp only [hd, hc]
      rfl
  · exact .inr (.inr ⟨h, by rw [if_neg h]⟩)

theorem State.drainColumn_frame (s : State) :
    s.drainColumn.1 =
      { s with sent := s.drainColumn.1.sent, drainCol := s.drainColumn.1.drainCol, out := s.drainColumn.1.out } := by
  unfold State.drainColumn
  dsimp only
  split <;> rfl

/-- `DRAIN_STEP` writes the drain cursor, `sent` and the controller port only (R250). -/
theorem State.drainStep_frame (s : State) :
    s.drainStep.1 =
      { s with
        sent := s.drainStep.1.sent
        drainPage := s.drainStep.1.drainPage
        drainCol := s.drainStep.1.drainCol
        out := s.drainStep.1.out } := by
  rcases s.drainStep_cases with ⟨-, -, h⟩ | ⟨-, -, h⟩ | ⟨-, h⟩
  · rw [h]
  · rw [h, State.drainColumn_frame]; rfl
  · rw [h, State.drainColumn_frame]

/-! ### The request machine -/

theorem State.rxCrc_frame (s : State) (b : Byte) : s.rxCrc b = { s with slots := (s.rxCrc b).slots } := by
  unfold State.rxCrc
  split <;> rfl

/-- The front end of the field states: a delimiter and a byte that is no digit take the error path, a digit goes on. -/
theorem State.rxFront_cases (s : State) (b : Byte) :
    ((b = STX ∨ b = ETX) ∧ s.rxFront b = (s.errorPath, none)) ∨
    (b ≠ STX ∧ b ≠ ETX ∧ hex2nib s.cfg.hexAcceptLower b = none ∧ s.rxFront b = ((s.rxCrc b).errorPath, none)) ∨
    (∃ n, b ≠ STX ∧ b ≠ ETX ∧ hex2nib s.cfg.hexAcceptLower b = some n ∧ s.rxFront b = (s.rxCrc b, some n)) := by
  unfold State.rxFront isStx isEtx
  by_cases h1 : b = STX
  · exact .inl ⟨.inl h1, by simp [h1]⟩
  · by_cases h2 : b = ETX
    · exact .inl ⟨.inr h2, by simp [h2]⟩
    · cases h : hex2nib s.cfg.hexAcceptLower b with
      | none => exact .inr (.inl ⟨h1, h2, rfl, by simp [h1, h2]⟩)
      | some n => exact .inr (.inr ⟨n, h1, h2, rfl, by simp [h1, h2]⟩)

/-- The rule a field state applies to a digit. -/
def fieldRule : RxState → State → Nibble → State
  | .vf => fun s _ => s
  | .vpn => State.rxVpn
  | .vcmd => State.rxVcmd
  | .vpay => State.rxVpay
  | .vcrc => State.rxVcrc

/-- What one received byte can do (R125, R142). -/
theorem State.rxByte_cases (s : State) (b : Byte) :
    (s.rxState = .vf ∧ b = STX ∧ s.delim = false ∧ s.rxByte b = s.rxStx) ∨
    (s.rxState = .vf ∧ b = ETX ∧ s.delim = true ∧ s.rxByte b = s.rxEtx) ∨
    (s.rxState = .vf ∧ ¬(b = STX ∧ s.delim = false) ∧ ¬(b = ETX ∧ s.delim = true) ∧ s.rxByte b = s.rxNoise) ∨
    (s.rxState ≠ .vf ∧ (b = STX ∨ b = ETX) ∧ s.rxByte b = s.errorPath) ∨
    (s.rxState ≠ .vf ∧ b ≠ STX ∧ b ≠ ETX ∧ hex2nib s.cfg.hexAcceptLower b = none ∧ s.rxByte b = (s.rxCrc b).errorPath) ∨
    (∃ n, s.rxState ≠ .vf ∧ b ≠ STX ∧ b ≠ ETX ∧ hex2nib s.cfg.hexAcceptLower b = some n ∧
      s.rxByte b = fieldRule s.rxState (s.rxCrc b) n) := by
  by_cases hvf : s.rxState = .vf
  · unfold State.rxByte isStx isEtx
    simp only [hvf, true_and]
    by_cases h1 : b = STX ∧ s.delim = false
    · exact .inl ⟨h1.1, h1.2, by simp [h1]⟩
    · by_cases h2 : b = ETX ∧ s.delim = true
      · exact .inr (.inl ⟨h2.1, h2.2, by simp [h2]⟩)
      · refine .inr (.inr (.inl ⟨h1, h2, ?_⟩))
        have h1' : (b == STX && !s.delim) = false := by
          rw [Bool.eq_false_iff]; simpa using h1
        have h2' : (b == ETX && s.delim) = false := by
          rw [Bool.eq_false_iff]; simpa using h2
        simp [h1', h2']
  · refine .inr (.inr (.inr ?_))
    have key : s.rxByte b = s.rxField b (fieldRule s.rxState) := by
      unfold State.rxByte
      cases h : s.rxState <;> simp_all [fieldRule]
    rw [key]
    unfold State.rxField
    rcases s.rxFront_cases b with ⟨h, e⟩ | ⟨h1, h2, h3, e⟩ | ⟨n, h1, h2, h3, e⟩
    · exact .inl ⟨hvf, h, by rw [e]⟩
    · exact .inr (.inl ⟨hvf, h1, h2, h3, by rw [e]⟩)
    · exact .inr (.inr ⟨n, hvf, h1, h2, h3, by rw [e]⟩)

end Sys2Proof.Machine
end

