-- ==== Sys2Proof/Laws/PerInstr.lean ====
section
/-! SUPPORT. Per instruction: its packet begins with a tag the decoder reads back (assumption log 1). -/

namespace Sys2Proof.Laws.PacketTag

/-- The instruction's packet is a tag and the bytes after it, and the tag's byte names that tag alone. -/
def Statement (i : Instr) : Prop := ∃ (t : Tag) (rest : List Byte), encode i = t.toByte :: rest ∧ Tag.ofByte t.toByte = some t

theorem rdkeys (pn : Byte) (crc : Half) : Statement (.rdkeys pn crc) := ⟨.frame, _, rfl, by decide⟩
theorem wrline (pn : Byte) (payload : Vector Byte 20) (crc : Half) : Statement (.wrline pn payload crc) := ⟨.frame, _, rfl, by decide⟩
theorem setbl (pn p0 : Byte) (crc : Half) : Statement (.setbl pn p0 crc) := ⟨.frame, _, rfl, by decide⟩
theorem clrdsp (pn : Byte) (crc : Half) : Statement (.clrdsp pn crc) := ⟨.frame, _, rfl, by decide⟩
theorem setlang (pn p0 : Byte) (crc : Half) : Statement (.setlang pn p0 crc) := ⟨.frame, _, rfl, by decide⟩
theorem getver (pn : Byte) (crc : Half) : Statement (.getver pn crc) := ⟨.frame, _, rfl, by decide⟩
theorem buzparam (pn p0 p1 : Byte) (crc : Half) : Statement (.buzparam pn p0 p1 crc) := ⟨.frame, _, rfl, by decide⟩
theorem buzctrl (pn p0 p1 p2 : Byte) (crc : Half) : Statement (.buzctrl pn p0 p1 p2 crc) := ⟨.frame, _, rfl, by decide⟩
theorem csNoerr (id : Nibble) : Statement (.csNoerr id) := ⟨.status, _, rfl, by decide⟩
theorem csErr (id : Nibble) : Statement (.csErr id) := ⟨.status, _, rfl, by decide⟩
theorem stx : Statement .stx := ⟨.wire, _, rfl, by decide⟩
theorem etx : Statement .etx := ⟨.wire, _, rfl, by decide⟩
theorem nul : Statement .nul := ⟨.wire, _, rfl, by decide⟩
theorem digit0 : Statement .digit0 := ⟨.wire, _, rfl, by decide⟩
theorem digit1 : Statement .digit1 := ⟨.wire, _, rfl, by decide⟩
theorem digit2 : Statement .digit2 := ⟨.wire, _, rfl, by decide⟩
theorem digit3 : Statement .digit3 := ⟨.wire, _, rfl, by decide⟩
theorem digit4 : Statement .digit4 := ⟨.wire, _, rfl, by decide⟩
theorem digit5 : Statement .digit5 := ⟨.wire, _, rfl, by decide⟩
theorem digit6 : Statement .digit6 := ⟨.wire, _, rfl, by decide⟩
theorem digit7 : Statement .digit7 := ⟨.wire, _, rfl, by decide⟩
theorem digit8 : Statement .digit8 := ⟨.wire, _, rfl, by decide⟩
theorem digit9 : Statement .digit9 := ⟨.wire, _, rfl, by decide⟩
theorem digitA : Statement .digitA := ⟨.wire, _, rfl, by decide⟩
theorem digitB : Statement .digitB := ⟨.wire, _, rfl, by decide⟩
theorem digitC : Statement .digitC := ⟨.wire, _, rfl, by decide⟩
theorem digitD : Statement .digitD := ⟨.wire, _, rfl, by decide⟩
theorem digitE : Statement .digitE := ⟨.wire, _, rfl, by decide⟩
theorem digitF : Statement .digitF := ⟨.wire, _, rfl, by decide⟩
theorem fmtInv (f line icon : Byte) (codes : Vector Byte 17) : Statement (.fmtInv f line icon codes) := ⟨.fmtInv, _, rfl, by decide⟩
theorem fmtAl (f line icon : Byte) (codes : Vector Byte 17) : Statement (.fmtAl f line icon codes) := ⟨.fmtAl, _, rfl, by decide⟩
theorem fmtAr (f line icon : Byte) (codes : Vector Byte 17) : Statement (.fmtAr f line icon codes) := ⟨.fmtAr, _, rfl, by decide⟩
theorem fmtBlink (f line icon : Byte) (codes : Vector Byte 17) : Statement (.fmtBlink f line icon codes) := ⟨.fmtBlink, _, rfl, by decide⟩
theorem ctrlData (pixels : Byte) : Statement (.ctrlData pixels) := ⟨.dataWord, _, rfl, by decide⟩
theorem pageSelect (p : Fin 6) : Statement (.pageSelect p) := ⟨.pageSelect, _, rfl, by decide⟩
theorem columnAddress (c : Byte) : Statement (.columnAddress c) := ⟨.columnAddress, _, rfl, by decide⟩
theorem displayOn : Statement .displayOn := ⟨.displayOn, _, rfl, by decide⟩
theorem reset : Statement .reset := ⟨.reset, _, rfl, by decide⟩
theorem rxByte (b : Byte) : Statement (.rxByte b) := ⟨.rxByte, _, rfl, by decide⟩
theorem txDone : Statement .txDone := ⟨.txDone, _, rfl, by decide⟩
theorem tick : Statement .tick := ⟨.tick, _, rfl, by decide⟩
theorem drainStep : Statement .drainStep := ⟨.drainStep, _, rfl, by decide⟩
theorem txPut (b : Byte) : Statement (.txPut b) := ⟨.txPut, _, rfl, by decide⟩
theorem dispatch (id : Byte) (payload : List Byte) : Statement (.dispatch id payload) := ⟨.dispatch, _, rfl, by decide⟩
theorem schedArm : Statement .schedArm := ⟨.schedArm, _, rfl, by decide⟩
theorem crc16Update (crc : Half) (b : Byte) : Statement (.crc16Update crc b) := ⟨.crc16Update, _, rfl, by decide⟩
theorem crc16 (bytes : List Byte) : Statement (.crc16 bytes) := ⟨.crc16, _, rfl, by decide⟩
theorem hex2nib (b : Byte) : Statement (.hex2nib b) := ⟨.hex2nib, _, rfl, by decide⟩
theorem nib2hex (n : Nibble) : Statement (.nib2hex n) := ⟨.nib2hex, _, rfl, by decide⟩
theorem hex2 (v : Byte) : Statement (.hex2 v) := ⟨.hex2, _, rfl, by decide⟩
theorem hex4 (v : Half) : Statement (.hex4 v) := ⟨.hex4, _, rfl, by decide⟩
theorem isStx (b : Byte) : Statement (.isStx b) := ⟨.isStx, _, rfl, by decide⟩
theorem isEtx (b : Byte) : Statement (.isEtx b) := ⟨.isEtx, _, rfl, by decide⟩
theorem rxStx : Statement .rxStx := ⟨.rxStx, _, rfl, by decide⟩
theorem rxNoise : Statement .rxNoise := ⟨.rxNoise, _, rfl, by decide⟩
theorem rxEtx : Statement .rxEtx := ⟨.rxEtx, _, rfl, by decide⟩
theorem rxVpn (n : Nibble) : Statement (.rxVpn n) := ⟨.rxVpn, _, rfl, by decide⟩
theorem rxVcmd (n : Nibble) : Statement (.rxVcmd n) := ⟨.rxVcmd, _, rfl, by decide⟩
theorem rxVpay (n : Nibble) : Statement (.rxVpay n) := ⟨.rxVpay, _, rfl, by decide⟩
theorem rxVcrc (n : Nibble) : Statement (.rxVcrc n) := ⟨.rxVcrc, _, rfl, by decide⟩
theorem rxErrorPath (cls : ErrClass) : Statement (.rxErrorPath cls) := ⟨.rxErrorPath, _, rfl, by decide⟩
theorem validate (id : Byte) (payload : Vector Byte 20) : Statement (.validate id payload) := ⟨.validate, _, rfl, by decide⟩
theorem arm (s : Fin 3) : Statement (.arm s) := ⟨.arm, _, rfl, by decide⟩
theorem txPump : Statement .txPump := ⟨.txPump, _, rfl, by decide⟩
theorem txNext : Statement .txNext := ⟨.txNext, _, rfl, by decide⟩
theorem txFill (s : Fin 3) : Statement (.txFill s) := ⟨.txFill, _, rfl, by decide⟩
theorem writeBits (value startBit width column : Nat) : Statement (.writeBits value startBit width column) := ⟨.writeBits, _, rfl, by decide⟩
theorem trim (code : Byte) : Statement (.trim code) := ⟨.trim, _, rfl, by decide⟩
theorem tw (code : Byte) : Statement (.tw code) := ⟨.tw, _, rfl, by decide⟩
theorem stuffChar (row0 h inv : Nat) (hide : Bool) (code : Byte) (col colHi : Nat) : Statement (.stuffChar row0 h inv hide code col colHi) := ⟨.stuffChar, _, rfl, by decide⟩
theorem blankCol (row0 h inv col : Nat) : Statement (.blankCol row0 h inv col) := ⟨.blankCol, _, rfl, by decide⟩
theorem renderLine (line : Nat) (content : Vector Byte 20) (isInternal : Bool) : Statement (.renderLine line content isInternal) := ⟨.renderLine, _, rfl, by decide⟩
theorem putLine (text : List Byte) (line : Nat) : Statement (.putLine text line) := ⟨.putLine, _, rfl, by decide⟩
theorem putQr (version offset : Nat) (contrast : Byte) : Statement (.putQr version offset contrast) := ⟨.putQr, _, rfl, by decide⟩
theorem fbClear : Statement .fbClear := ⟨.fbClear, _, rfl, by decide⟩
theorem blinkTick : Statement .blinkTick := ⟨.blinkTick, _, rfl, by decide⟩
theorem clearSlot (i : Fin 3) : Statement (.clearSlot i) := ⟨.clearSlot, _, rfl, by decide⟩
theorem rxFieldDigit (b : Byte) : Statement (.rxFieldDigit b) := ⟨.rxFieldDigit, _, rfl, by decide⟩
theorem rxDecodeError (b : Byte) : Statement (.rxDecodeError b) := ⟨.rxDecodeError, _, rfl, by decide⟩
theorem rxFieldChoice : Statement .rxFieldChoice := ⟨.rxFieldChoice, _, rfl, by decide⟩

end Sys2Proof.Laws.PacketTag
end

