-- ==== Sys2Proof/Tests/Slice0.lean ====
section
/-! SUPPORT. Tests of one step each. Expected values come from spec/: the vectors of 95_test_vectors.md (V, E), the frames of
R173 and the worked examples of the rules, under the default parameters and the test ROMs of 95_test_vectors.md section 4.
First the well-formedness smoke tests, then words written out from the encodings, then the operations, then one witness for
the hypotheses of every obligation that has some. -/

namespace Sys2Proof.Tests

open Sys2Proof Sys2Proof.Machine

set_option Elab.async false

/-! ### Fixtures -/

/-- `k` ASCII hex digits of a number, most significant first. -/
def ascii (k n : Nat) : List Byte :=
  (List.range k).reverse.map fun j =>
    BitVec.ofNat 8 (if n / 16 ^ j % 16 < 10 then 48 + n / 16 ^ j % 16 else 55 + n / 16 ^ j % 16)

/-- An entry of the test glyph ROM from its columns. -/
def entry (cols : List Nat) (blinking trimmable : Bool) : GlyphEntry where
  width := cols.length
  bitmap := Vector.ofFn fun i => BitVec.ofNat 8 (if i.val % 2 = 0 then cols.getD (i.val / 2) 0 else cols.getD (i.val / 2) 0 / 256)
  isBlinking := blinking
  trimmable := trimmable

/-- The test glyph ROM `TG` (95_test_vectors.md section 4), the codes the tests use. -/
def testGlyphs : Vector GlyphEntry 256 :=
  ((((((((Vector.replicate 256 GlyphEntry.blank).set 0x2A (entry [0x00A, 0x004] true false)).set
    0x41 (entry [0x1FE, 0x011, 0x1FE] false false)).set 0x48 (entry [0x1FF, 0x010, 0x1FF] false false)).set
    0x49 (entry [0x1FF] false false)).set 0x80 (entry [0, 0x03C, 0x07E, 0x03C, 0] false true)).set
    0x81 (entry [0x0FF, 0x081, 0x081, 0x0FF] true true)).set 0x82 (entry [0, 0, 0, 0] false false)).set
    0x83 (entry [0, 0, 0, 0] false true)

/-- The test QR ROM `TQ` (95_test_vectors.md section 4). -/
def testQr : Vector (Vector (Vector Byte 45) 6) 5 :=
  Vector.ofFn fun v => Vector.ofFn fun row => Vector.ofFn fun col =>
    BitVec.ofNat 8 (17 * (v.val + 3) + 31 * row.val + 7 * col.val)

/-- The default parameters with the test ROMs. -/
def testConfig : Config := { Config.default with glyph := testGlyphs, qr := testQr }

/-- The state after reset with the test ROMs. -/
def s0 : State := State.resetWith testConfig

/-- A line content from its first bytes. -/
def line20 (bs : List Byte) : Vector Byte 20 := Vector.ofFn fun i => bs[i.val]?.getD 0

/-- 17 glyph codes from the first ones. -/
def codes17 (bs : List Byte) : Vector Byte 17 := Vector.ofFn fun i => bs[i.val]?.getD 0

/-- What `f` reads from the next state, if there is one. -/
def sees {α : Type} (o : Host.Outcome State Fault Refusal) (f : State → α) : Option α := (nextOf o).map f

/-- Reset with slot 0 as given. -/
def withSlot (sl : Slot) : State := { s0 with slots := s0.slots.set 0 sl }

/-- Slot 0 of a decoded request, armed or not. -/
def slotOf (cmd pn : Byte) (err : Bool) (resp : Vector Byte 2) (ack : Ack) : Slot :=
  { Slot.cleared 0 with cmd := cmd, pn := pn, err := err, resp := resp, ack := ack }

/-- The three `ack`s as given, a byte in flight or not, RX and TX at the given slots. -/
def ring (a b c : Ack) (rx tx : Fin 3) (busy : Bool) : State :=
  { s0 with
    slots := #v[{ Slot.cleared 0 with ack := a }, { Slot.cleared 0 with ack := b }, { Slot.cleared 0 with ack := c }]
    rxIdx := rx, txIdx := tx, txBusy := busy }

/-- A field of a frame open in slot 0. -/
def inField (x : RxState) (nib : BitVec 2) (acc : Byte) (sl : Slot) : State :=
  { withSlot sl with rxState := x, delim := true, nibCnt := nib, acc := acc }

/-! ### Well-formedness: each check refuses an ill-formed term -/

theorem test_wf_format_flag_clear :
    Instr.wf (.fmtInv 0xFE 0 0 (codes17 [])) = false ∧ Instr.wf (.fmtAl 0xFD 0 0 (codes17 [])) = false ∧
    Instr.wf (.fmtAr 0xFB 0 0 (codes17 [])) = false ∧ Instr.wf (.fmtBlink 0xF7 0 0 (codes17 [])) = false := by decide

theorem test_wf_write_bits_fields :
    Instr.wf (.writeBits (2 ^ 64) 0 0 0) = false ∧ Instr.wf (.writeBits 0 256 0 0) = false ∧
    Instr.wf (.writeBits 0 0 256 0) = false ∧ Instr.wf (.writeBits 0 0 0 256) = false := by decide

theorem test_wf_stuff_char_fields :
    Instr.wf (.stuffChar 256 0 0 false 0 0 0) = false ∧ Instr.wf (.stuffChar 0 256 0 false 0 0 0) = false ∧
    Instr.wf (.stuffChar 0 0 (2 ^ 64) false 0 0 0) = false ∧ Instr.wf (.stuffChar 0 0 0 false 0 256 0) = false ∧
    Instr.wf (.stuffChar 0 0 0 false 0 0 256) = false := by decide

theorem test_wf_blank_col_fields :
    Instr.wf (.blankCol 256 0 0 0) = false ∧ Instr.wf (.blankCol 0 256 0 0) = false ∧
    Instr.wf (.blankCol 0 0 (2 ^ 64) 0) = false ∧ Instr.wf (.blankCol 0 0 0 256) = false := by decide

theorem test_wf_line_and_offset :
    Instr.wf (.renderLine 256 (line20 []) false) = false ∧ Instr.wf (.putLine [] 256) = false ∧
    Instr.wf (.putQr 256 0 0) = false ∧ Instr.wf (.putQr 0 256 0) = false := by decide

/-! ### Words written out from the encodings -/

/-- R85, R91, R173: the tag, `STX`, two digits of packet number, two of id, the payload digits, four CRC digits, `ETX`, `NUL`. -/
theorem test_decode_request_frames :
    decode [0x02, 0x02, 0x31, 0x30, 0x30, 0x31, 0x32, 0x37, 0x44, 0x42, 0x03, 0x00] = .ok (.rdkeys 0x10 0x27DB) ∧
    decode [0x02, 0x02, 0x30, 0x32, 0x30, 0x33, 0x30, 0x31, 0x45, 0x46, 0x31, 0x36, 0x03, 0x00]
      = .ok (.setbl 0x02 0x01 0xEF16) ∧
    decode [0x02, 0x02, 0x30, 0x33, 0x30, 0x34, 0x44, 0x38, 0x45, 0x41, 0x03, 0x00] = .ok (.clrdsp 0x03 0xD8EA) ∧
    decode [0x02, 0x02, 0x30, 0x34, 0x30, 0x35, 0x30, 0x32, 0x45, 0x46, 0x33, 0x45, 0x03, 0x00]
      = .ok (.setlang 0x04 0x02 0xEF3E) ∧
    decode [0x02, 0x02, 0x30, 0x31, 0x30, 0x36, 0x44, 0x39, 0x43, 0x41, 0x03, 0x00] = .ok (.getver 0x01 0xD9CA) ∧
    decode [0x02, 0x02, 0x30, 0x35, 0x30, 0x37, 0x30, 0x30, 0x43, 0x38, 0x43, 0x45, 0x41, 0x39, 0x03, 0x00]
      = .ok (.buzparam 0x05 0x00 0xC8 0xCEA9) ∧
    decode [0x02, 0x02, 0x30, 0x36, 0x30, 0x38, 0x30, 0x32, 0x30, 0x33, 0x30, 0x41, 0x38, 0x32, 0x44, 0x32, 0x03, 0x00]
      = .ok (.buzctrl 0x06 0x02 0x03 0x0A 0x82D2) := by decide +kernel

/-- E2: the 51-byte frame of write-line. -/
theorem test_decode_wrline :
    decode ([0x02, 0x02] ++ ascii 4 0x0102 ++ ascii 16 0x01800248454C4C4F ++ ascii 24 0 ++ ascii 4 0x844D ++ [0x03, 0x00])
      = .ok (.wrline 0x01 (line20 [0x01, 0x80, 0x02, 0x48, 0x45, 0x4C, 0x4C, 0x4F]) 0x844D) := by decide +kernel

/-- A frame with a lowercase digit, a short payload or no `NUL` is no request frame (R85, R94). -/
theorem test_decode_refuses_bad_frames :
    decode [0x02, 0x02, 0x30, 0x31, 0x30, 0x36, 0x64, 0x39, 0x43, 0x41, 0x03, 0x00] = .bad .badFrame ∧
    decode [0x02, 0x02, 0x30, 0x32, 0x30, 0x33, 0x45, 0x46, 0x31, 0x36, 0x03, 0x00] = .bad .badFrame ∧
    decode [0x02, 0x02, 0x30, 0x31, 0x30, 0x36, 0x44, 0x39, 0x43, 0x41, 0x03] = .bad .badFrame ∧
    decode [] = .bad .emptyPacket ∧ decode [0xFF] = .bad (.unknownTag 0xFF) := by decide +kernel

/-- R87, R88: the nineteen wire bytes. -/
theorem test_decode_wire_symbols :
    ([0x02, 0x03, 0x00, 0x30, 0x31, 0x32, 0x33, 0x34, 0x35, 0x36, 0x37, 0x38, 0x39, 0x41, 0x42, 0x43, 0x44, 0x45,
      0x46] : List Byte).map (fun b => decode [0x01, b]) =
    [.stx, .etx, .nul, .digit0, .digit1, .digit2, .digit3, .digit4, .digit5, .digit6, .digit7, .digit8, .digit9,
      .digitA, .digitB, .digitC, .digitD, .digitE, .digitF].map Decoded.ok := by decide +kernel

/-- R90 (bits 3:0 the id, 7 the error), R97 (flags in bits 0 to 3), R100 (bit 8 the selector). -/
theorem test_decode_values :
    decode [0x03, 0x06] = .ok (.csNoerr 6) ∧ decode [0x03, 0x86] = .ok (.csErr 6) ∧
    decode ([0x04, 0x01, 0x02, 0x80] ++ List.replicate 17 0x48) = .ok (.fmtInv 0x01 2 0x80 (Vector.replicate 17 0x48)) ∧
    decode ([0x05, 0x02, 0x03, 0x80] ++ List.replicate 17 0x48) = .ok (.fmtAl 0x02 3 0x80 (Vector.replicate 17 0x48)) ∧
    decode ([0x06, 0x04, 0x00, 0x80] ++ List.replicate 17 0x48) = .ok (.fmtAr 0x04 0 0x80 (Vector.replicate 17 0x48)) ∧
    decode ([0x07, 0x08, 0x01, 0x80] ++ List.replicate 17 0x48) = .ok (.fmtBlink 0x08 1 0x80 (Vector.replicate 17 0x48)) ∧
    decode ([0x04, 0x02, 0x02, 0x80] ++ List.replicate 17 0x48) = .bad (.badOperands .fmtInv) ∧
    decode [0x08, 0x01, 0xA5] = .ok (.ctrlData 0xA5) := by decide +kernel

/-- The packets of ports and events (log 1). -/
theorem test_decode_events :
    decode [0x10, 0x05] = .ok (.pageSelect 5) ∧ decode [0x10, 0x06] = .bad (.badOperands .pageSelect) ∧
    decode [0x11, 0x00] = .ok (.columnAddress 0) ∧ decode [0x12] = .ok .displayOn ∧ decode [0x20] = .ok .reset ∧
    decode [0x21, 0x47] = .ok (.rxByte 0x47) ∧ decode [0x22] = .ok .txDone ∧ decode [0x23] = .ok .tick ∧
    decode [0x24] = .ok .drainStep ∧ decode [0x28, 0x02] = .ok (.txPut 0x02) ∧
    decode [0x29, 0x07, 0x00, 0xC8] = .ok (.dispatch 7 [0x00, 0xC8]) ∧ decode [0x2A] = .ok .schedArm := by decide +kernel

/-- Operands to which the spec gives no result run too: any command id, payload length, column and line (logs 1, 7, 18). -/
theorem test_decode_any_operand :
    decode [0x11, 0x05] = .ok (.columnAddress 5) ∧ decode [0x29, 0x09] = .ok (.dispatch 9 []) ∧
    decode ([0x48, 0x01] ++ List.replicate 20 0) = .ok (.validate 1 (line20 [])) ∧
    decode ([0x65, 0x04, 0x00] ++ List.replicate 20 0) = .ok (.renderLine 4 (line20 []) false) ∧
    decode ([0x04, 0x01, 0x04, 0x80] ++ List.replicate 17 0) = .ok (.fmtInv 0x01 4 0x80 (codes17 [])) := by decide +kernel

/-- The packets of the CRC unit and the request machine (log 1). -/
theorem test_decode_codec_and_request :
    decode [0x30, 0xFF, 0x01, 0x30] = .ok (.crc16Update 0xFF01 0x30) ∧ decode [0x31, 0x30, 0x31] = .ok (.crc16 [0x30, 0x31]) ∧
    decode [0x32, 0x43] = .ok (.hex2nib 0x43) ∧ decode [0x33, 0x0C] = .ok (.nib2hex 12) ∧
    decode [0x34, 0x3A] = .ok (.hex2 0x3A) ∧ decode [0x35, 0xD9, 0xCA] = .ok (.hex4 0xD9CA) ∧
    decode [0x36, 0x02] = .ok (.isStx 2) ∧ decode [0x37, 0x03] = .ok (.isEtx 3) ∧ decode [0x40] = .ok .rxStx ∧
    decode [0x41] = .ok .rxNoise ∧ decode [0x42] = .ok .rxEtx ∧ decode [0x43, 0x01] = .ok (.rxVpn 1) ∧
    decode [0x44, 0x02] = .ok (.rxVcmd 2) ∧ decode [0x45, 0x0F] = .ok (.rxVpay 15) ∧ decode [0x46, 0x09] = .ok (.rxVcrc 9) ∧
    decode [0x47, 0x03] = .ok (.rxErrorPath .validation) ∧ decode [0x47, 0x01] = .bad (.badOperands .rxErrorPath) ∧
    decode ([0x48, 0x07, 0x00, 0xC8] ++ List.replicate 18 0) = .ok (.validate 7 (line20 [0x00, 0xC8])) ∧
    decode [0x49, 0x41] = .ok (.rxFieldDigit 0x41) ∧ decode [0x4A, 0x47] = .ok (.rxDecodeError 0x47) ∧
    decode [0x4B] = .ok .rxFieldChoice ∧ decode [0x4C, 0x02] = .ok (.clearSlot 2) := by decide +kernel

/-- The packets of the response machine, the framebuffer and the rendering (log 1). -/
theorem test_decode_response_and_rendering :
    decode [0x50, 0x01] = .ok (.arm 1) ∧ decode [0x51] = .ok .txPump ∧ decode [0x52] = .ok .txNext ∧
    decode [0x53, 0x02] = .ok (.txFill 2) ∧
    decode [0x60, 0x04, 0x14, 0x09, 0, 0, 0, 0, 0, 0x0A, 0xBC, 0xDE] = .ok (.writeBits 0xABCDE 4 20 9) ∧
    decode [0x61, 0x80] = .ok (.trim 0x80) ∧ decode [0x62, 0x80] = .ok (.tw 0x80) ∧
    decode [0x63, 0x02, 0x0A, 0x01, 0x81, 0x7C, 0x80, 0, 0, 0, 0, 0, 0, 0x03, 0xFF]
      = .ok (.stuffChar 2 10 0x3FF true 0x81 124 128) ∧
    decode [0x64, 0x0E, 0x0A, 0x09, 0, 0, 0, 0, 0, 0, 0x03, 0xFF] = .ok (.blankCol 14 10 0x3FF 9) ∧
    decode ([0x65, 0x03, 0x01] ++ List.replicate 20 0x41) = .ok (.renderLine 3 (Vector.replicate 20 0x41) true) ∧
    decode [0x66, 0x04, 0x00, 0x02, 0x41] = .ok (.putLine [0x00, 0x02, 0x41] 4) ∧
    decode [0x67, 0x09, 0x53, 0xFF] = .ok (.putQr 9 83 0xFF) ∧ decode [0x68] = .ok .fbClear ∧
    decode [0x69] = .ok .blinkTick := by decide +kernel

/-- Opcode-table words: the two command digits of a request, a wire byte, a format byte, a status byte, a data word. -/
theorem test_decode_table_words :
    decodeTableWord 16 0x3036 = some (.getver 0 0) ∧ decodeTableWord 8 0x46 = some .digitF ∧
    decodeTableWord 8 0x01 = some (.fmtInv 0x01 0 0 (codes17 [])) ∧ decodeTableWord 8 0x86 = some (.csErr 6) ∧
    decodeTableWord 16 0x01A5 = some (.ctrlData 0xA5) := by decide +kernel

/-! ### The CRC unit and the nibble codec (V1 to V12) -/

theorem test_crc16Update_v5_v6 :
    exec (.crc16Update 0x0000 0x30) s0 = .next (s0.ret (.half 0x1400)) ∧
    crc16Update 0xFFFF 0xFF = 0x00FF := ⟨rfl, by decide⟩

theorem test_crc16_v7_v8 :
    sees (exec (.crc16 (ascii 4 0x0106)) s0) (·.out) = some [.ret (.half 0xD9CA)] ∧ crc16 0 [0x01, 0x06] = 0x9281 := by
  decide +kernel

theorem test_hex2nib_v11 :
    exec (.hex2nib 0x43) s0 = .next (s0.ret (.okNib true 12)) ∧ exec (.hex2nib 0x61) s0 = .next (s0.ret (.okNib false 0)) ∧
    ([0x47, 0x2F, 0x3A, 0x40, 0x61, 0x00, 0x02, 0x03, 0xFF] : List Byte).all (fun b => (hex2nib false b).isNone) = true ∧
    hex2nib true 0x66 = some 15 ∧ hex2nib true 0x67 = none := ⟨rfl, rfl, by decide, by decide, by decide⟩

theorem test_nib2hex_v12 : ([0, 9, 10, 15] : List Nibble).map nib2hex = [0x30, 0x39, 0x41, 0x46] := by decide

theorem test_hex2_hex4_v12 :
    hex2 0x3A = [0x33, 0x41] ∧ hex4 0xD9CA = [0x44, 0x39, 0x43, 0x41] ∧ hex4 0x000A = [0x30, 0x30, 0x30, 0x41] := by decide

theorem test_isStx_isEtx : isStx 0x02 = true ∧ isStx 0x03 = false ∧ isEtx 0x03 = true ∧ isEtx 0x02 = false := by decide

/-! ### The wire commands (V13, E2, E4) -/

/-- A good frame: the dispatch, then the `STX` of the response, slot 0 `SENDING` without error. -/
def goodRun (i : Instr) (id : Byte) (payload : List Byte) : Bool :=
  sees (exec i { s0 with replies := [{ calls := [], resp := #v[5, 0] }] })
      (fun t => (t.out, (t.slot 0).ack, (t.slot 0).err, t.rxState, t.delim)) ==
    some ([.dispatch id payload, .txPut 0x02], .sending, false, .vf, false)

/-- A frame that takes the error path: no dispatch, slot 0 `SENDING` with `err`. -/
def errRun (i : Instr) (id : Byte) : Bool :=
  sees (exec i s0) (fun t => (t.out, (t.slot 0).ack, (t.slot 0).err, (t.slot 0).cmd)) ==
    some ([.txPut 0x02], .sending, true, id)

theorem test_rdkeys_v13 : goodRun (.rdkeys 0x10 0x27DB) 1 [] = true ∧ errRun (.rdkeys 0x10 0x27DC) 1 = true := by
  decide +kernel

theorem test_wrline_e2 :
    goodRun (.wrline 0x01 (line20 [0x01, 0x80, 0x02, 0x48, 0x45, 0x4C, 0x4C, 0x4F]) 0x844D) 2
      ([0x01, 0x80, 0x02, 0x48, 0x45, 0x4C, 0x4C, 0x4F] ++ List.replicate 12 0) = true := by decide +kernel

theorem test_setbl_v13 : goodRun (.setbl 0x02 0x01 0xEF16) 3 [0x01] = true ∧ errRun (.setbl 0x02 0x00 0xEF16) 3 = true := by
  decide +kernel

theorem test_clrdsp_v13 : goodRun (.clrdsp 0x03 0xD8EA) 4 [] = true := by decide +kernel

theorem test_setlang_v13 : goodRun (.setlang 0x04 0x02 0xEF3E) 5 [0x02] = true := by decide +kernel

theorem test_getver_v13_v19 : goodRun (.getver 0x01 0xD9CA) 6 [] = true ∧ errRun (.getver 0x01 0xD9CB) 6 = true := by
  decide +kernel

theorem test_buzparam_e4 :
    goodRun (.buzparam 0x05 0x00 0xC8 0xCEA9) 7 [0x00, 0xC8] = true ∧ errRun (.buzparam 0x05 0x00 0xC9 0x0E68) 7 = true := by
  decide +kernel

theorem test_buzctrl_v22 :
    goodRun (.buzctrl 0x06 0x02 0x03 0x0A 0x82D2) 8 [0x02, 0x03, 0x0A] = true ∧
    errRun (.buzctrl 0x06 0x02 0x40 0x0A 0xB223) 8 = true := by decide +kernel

/-! ### Wire symbols and the request machine -/

/-- The status byte of `GETVER`'s response and of its `ERR` response: `"06"` and `"86"` (V13), handed to the caller. -/
theorem test_status_rows :
    exec (.csNoerr 6) s0 = .next (s0.ret (.bytes [0x30, 0x36])) ∧
    exec (.csErr 6) s0 = .next (s0.ret (.bytes [0x38, 0x36])) := ⟨rfl, rfl⟩

/-- V14: noise while idle changes nothing. -/
theorem test_noise_v14 :
    exec .digitA s0 = .next s0 ∧ exec .nul s0 = .next s0 ∧ exec .etx s0 = .next s0 := ⟨rfl, rfl, rfl⟩

/-- V12: the digits `'C'`, `'8'` accumulate to `0xC8`. -/
theorem test_digits_v12 :
    sees (exec .digitC (inField .vpn 0 0 (Slot.cleared 0))) (fun t => (t.nibCnt, t.acc, t.rxState)) = some (1, 0xC0, .vpn) ∧
    sees (exec .digit8 (inField .vpn 1 0xC0 (Slot.cleared 0))) (fun t => (t.nibCnt, (t.slot 0).pn, t.rxState))
      = some (0, 0xC8, .vcmd) := by decide +kernel

/-- V15, V16: a delimiter inside a field takes the error path. -/
theorem test_delimiter_in_field_v15_v16 :
    sees (exec .stx (inField .vpn 1 0 (Slot.cleared 0))) (fun t => ((t.slot 0).err, t.rxState, t.delim, t.out))
      = some (true, .vf, false, [.txPut 0x02]) ∧
    sees (exec .etx (inField .vcmd 0 0 (Slot.cleared 0))) (fun t => ((t.slot 0).err, t.rxState, t.delim, t.out))
      = some (true, .vf, false, [.txPut 0x02]) := by decide +kernel

/-- V18: an extra byte while `ETX` is awaited is noise: no response, no error. -/
theorem test_rxByte_v18 :
    sees (exec (.rxByte 0x58) { s0 with delim := true }) (fun t => (t.delim, t.out, (t.slot 0).err, (t.slot 0).ack))
      = some (false, [], false, .notReady) := by decide +kernel

/-- V21: a lowercase digit is a decode error. -/
theorem test_rxFieldDigit_v21 :
    sees (exec (.rxFieldDigit 0x64) (inField .vcrc 0 0 (slotOf 6 1 false #v[0, 0] .notReady)))
      (fun t => ((t.slot 0).err, t.rxState)) = some (true, .vf) := by decide +kernel

/-- V20: ids 0, 9 and `0x86` store 0 and take the error path. -/
theorem test_rxVcmd_v20 :
    ([(0x00, 0), (0x00, 9), (0x80, 6)] : List (Byte × Nibble)).all (fun v =>
      sees (exec (.rxVcmd v.2) (inField .vcmd 1 v.1 (slotOf 5 1 false #v[0, 0] .notReady)))
        (fun t => ((t.slot 0).cmd, (t.slot 0).err)) == some (0, true)) = true := by decide +kernel

/-- C1, R137: read-keys skips the payload field; buzzer-param enters it. -/
theorem test_rxFieldChoice_c1 :
    sees (exec .rxFieldChoice (inField .vcmd 0 0 (slotOf 1 1 false #v[0, 0] .notReady))) (·.rxState) = some .vcrc ∧
    sees (exec .rxFieldChoice (inField .vcmd 0 0 (slotOf 7 1 false #v[0, 0] .notReady))) (·.rxState) = some .vpay := by
  decide +kernel

/-- V19: the fourth CRC digit shifts in last and is compared. -/
theorem test_rxVcrc_v19 :
    sees (exec (.rxVcrc 0xB) (inField .vcrc 3 0 { slotOf 6 1 false #v[0, 0] .notReady with crcRx := 0x0D9C, crcCalc := 0xD9CA }))
      (fun t => ((t.slot 0).crcRx, (t.slot 0).err)) = some (0xD9CB, true) := by decide +kernel

/-- V24: the fourth `STX` finds the ring full and is dropped. -/
theorem test_rxStx_v24 : exec .rxStx (ring .sending .toBeSend .toBeSend 2 0 true) =
    .next (ring .sending .toBeSend .toBeSend 2 0 true) := rfl

/-- V23: a frame after a `SENT` one rotates to the next slot. -/
theorem test_rxStx_v23 :
    sees (exec .rxStx (ring .sent .notReady .notReady 0 0 false)) (fun t => (t.rxIdx, t.delim, t.rxState, (t.slot 0).ack))
      = some (1, true, .vpn, .sent) := by decide +kernel

/-- V22, E4: the limits of the validators. -/
theorem test_validate_v22 :
    ([(7, [0, 0xC8]), (7, [1, 0x64]), (8, [2, 63]), (2, []), (3, []), (5, [])] : List (Byte × List Byte)).all
      (fun v => validate testConfig v.1 (line20 v.2)) = true ∧
    ([(7, [0, 0xC9]), (7, [1, 0x65]), (7, [2, 0]), (8, [2, 64]), (8, [3, 3])] : List (Byte × List Byte)).all
      (fun v => !validate testConfig v.1 (line20 v.2)) = true := by decide +kernel

/-- R29. -/
theorem test_clearSlot_r29 :
    exec (.clearSlot 0) (withSlot (slotOf 6 1 true #v[1, 7] .sent)) = .next s0 := rfl

/-! ### The response machine (V13, R185) -/

theorem test_txFill_v13 :
    sees (exec (.txFill 0) (withSlot (slotOf 6 0x01 false #v[0x01, 0x07] .sending))) (fun t => (t.txBuf.toList, t.txLen))
      = some (ascii 4 0x0106 ++ ascii 4 0x0107 ++ ascii 4 0x3AE5 ++ [0x03, 0x00], 14) ∧
    sees (exec (.txFill 0) (withSlot (slotOf 1 0x10 true #v[0, 0] .sending))) (fun t => (t.txBuf.toList, t.txLen))
      = some (ascii 4 0x1081 ++ ascii 2 0x00 ++ ascii 4 0x9E0C ++ [0x03, 0x00, 0x00, 0x00], 12) := by decide +kernel

/-- R181: transmitter idle, `tx_idx = 0`: the slot goes to `SENDING` and `STX` is put out. -/
theorem test_arm_r181 :
    sees (exec (.arm 0) s0) (fun t => ((t.slot 0).ack, t.txBusy, t.txCursor, t.out)) = some (.sending, true, 1, [.txPut 0x02]) ∧
    sees (exec (.arm 1) (ring .sending .notReady .notReady 1 0 true)) (fun t => ((t.slot 1).ack, t.out)) = some (.toBeSend, [])
    := by decide +kernel

/-- The last byte marks the slot `SENT`, cursor 15 (V23). -/
theorem test_txNext_last_byte :
    sees (exec .txNext { ring .sending .notReady .notReady 0 0 false with txCursor := 14, txLen := 14 })
      (fun t => ((t.slot 0).ack, t.txCursor, t.out)) = some (.sent, 15, [.ret (.optByte (some 0x00))]) := by decide +kernel

/-- V25: the completion after the last byte starts the next armed slot. -/
theorem test_txDone_v25 :
    sees (exec .txDone (ring .sent .toBeSend .toBeSend 2 0 true)) (fun t => (t.txIdx, (t.slot 1).ack, t.out))
      = some (1, .sending, [.txPut 0x02]) := by decide +kernel

theorem test_txPump_nothing_to_send : exec .txPump { s0 with txBusy := true } = .next s0 := rfl

/-! ### The framebuffer (V37 to V44) -/

theorem test_writeBits_v37_v41 :
    sees (exec (.writeBits 0xF 6 4 5) s0) (fun t => (t.fb, t.ver.toList))
      = some ([(5, 0xC0), (133, 0x03)], [1, 1, 0, 0, 0, 0]) ∧
    sees (exec (.writeBits 0xABCDE 4 20 9) s0) (fun t => (t.fb, t.ver.toList))
      = some ([(9, 0xE0), (137, 0xCD), (265, 0xAB)], [1, 1, 1, 0, 0, 0]) := by decide +kernel

theorem test_writeBits_v38_v42_v43 :
    sees (exec (.writeBits 0 6 4 5) { s0 with fb := [(5, 0xFF), (133, 0xFF)] }) (·.fb) = some [(5, 0x3F), (133, 0xFC)] ∧
    sees (exec (.writeBits 0x1FF 44 9 0) s0) (fun t => (t.fb, t.ver.toList)) = some ([(640, 0xF0)], [0, 0, 0, 0, 0, 1]) ∧
    sees (exec (.writeBits 1 0 1 128) s0) (fun t => (t.fb, t.ver.toList)) = some ([], [0, 0, 0, 0, 0, 0]) := by
  decide +kernel

/-! ### Glyphs and lines (V45 to V51) -/

theorem test_trim_tw :
    ([0x80, 0x81, 0x82, 0x83, 0x41] : List Byte).map (trimGlyph testConfig) = [(1, 4), (0, 4), (0, 4), (0, 0), (0, 3)] ∧
    ([0x80, 0x81, 0x82, 0x83, 0x41] : List Byte).map (trimmedWidth testConfig) = [3, 4, 4, 0, 3] := by decide +kernel

/-- The left icon of V45; a blinking one hidden; one that does not fit. -/
theorem test_stuffChar :
    sees (exec (.stuffChar 2 10 0 false 0x80 0 128) s0) (fun t => (t.fb, t.out))
      = some ([(0, 0xF0), (1, 0xF8), (2, 0xF0), (129, 0x01)], [.ret (.num 3)]) ∧
    sees (exec (.stuffChar 2 10 0 true 0x81 124 128) s0) (fun t => (t.fb, t.ver.toList)) = some ([], [4, 4, 0, 0, 0, 0]) ∧
    sees (exec (.stuffChar 2 10 0 false 0x81 125 128) s0) (fun t => (t.ver.toList, t.out))
      = some ([0, 0, 0, 0, 0, 0], [.ret (.num 4)]) := by decide +kernel

/-- An inverted blank column of line 1 (V47). -/
theorem test_blankCol_v47 : sees (exec (.blankCol 14 10 0x3FF 9) s0) (·.fb) = some [(137, 0xC0), (265, 0xFF)] := by
  decide +kernel

/-- The framebuffer of V45. -/
def v45 : Memory :=
  [(0, 0xF0), (1, 0xF8), (2, 0xF0), (4, 0xFC), (5, 0x40), (6, 0xFC), (8, 0xFC), (129, 0x01), (132, 0x07), (134, 0x07),
    (136, 0x07)]

theorem test_renderLine_v45 :
    sees (exec (.renderLine 0 (line20 [0x80, 0x02, 0x48, 0x49]) false) s0) (fun t => (t.fb, t.ver.toList, t.out))
      = some (v45, [128, 128, 0, 0, 0, 0], []) := by decide +kernel

/-- V47a: a right icon that blinks: its columns, its task, the request to the scheduler. -/
theorem test_renderLine_v47a :
    sees (exec (.renderLine 0 ((line20 [0x00, 0x02, 0x41]).set 19 0x81) false) s0)
        (fun t => (t.fb, t.task[0], t.schedArmed, t.out))
      = some ([(1, 0xF8), (2, 0x44), (3, 0xF8), (124, 0xFC), (125, 0x04), (126, 0x04), (127, 0xFC), (129, 0x07), (131, 0x07),
          (252, 0x03), (253, 0x02), (254, 0x02), (255, 0x03)],
        { live := true, code := 0x81, col := 124, row0 := 2, h := 10, inv := 0, colHi := 128, hide := false }, true,
        [.schedArm]) := by decide +kernel

/-- V46, V45: the format rows of one line: `AR` right, `AL` left, `BLINK` with nothing else centre. -/
theorem test_format_rows_v46 :
    sees (exec (.fmtAr 0x04 0 0x80 (codes17 [0x48, 0x49])) s0) (·.fb)
      = some [(0, 0xF0), (1, 0xF8), (2, 0xF0), (123, 0xFC), (124, 0x40), (125, 0xFC), (127, 0xFC), (129, 0x01),
          (251, 0x07), (253, 0x07), (255, 0x07)] ∧
    sees (exec (.fmtAl 0x0E 0 0x80 (codes17 [0x48, 0x49])) s0) (·.fb) = some v45 ∧
    sees (exec (.fmtBlink 0x08 0 0x80 (codes17 [0x48, 0x49])) s0) (fun t => t.fb.take 4)
      = some [(0, 0xF0), (1, 0xF8), (2, 0xF0), (63, 0xFC)] := by decide +kernel

/-- V47: an inverted line 1; its first columns. -/
theorem test_fmtInv_v47 :
    sees (exec (.fmtInv 0x03 1 0x80 (codes17 [0x48, 0x49])) s0)
        (fun t => (List.range 5).map fun c => (memRead t.fb 1 c, memRead t.fb 2 c))
      = some [(0xC0, 0xF0), (0x40, 0xE0), (0xC0, 0xF0), (0xC0, 0xFF), (0x00, 0x80)] := by decide +kernel

theorem test_putLine_v49 :
    sees (exec (.putLine [0x80, 0x02, 0x48, 0x49] 0) s0) (fun t => (t.fb, t.cacheValid.toList, t.linebuf[0], t.out))
      = some (v45, [true, false, false, false], line20 [0x80, 0x02, 0x48, 0x49], [.ret (.flag true)]) := by decide +kernel

theorem test_putLine_v50 :
    exec (.putLine [0x00, 0x02, 0x41] 4) s0 = .next (s0.ret (.flag false)) ∧
    exec (.putLine (List.replicate 20 0) 0) s0 = .next (s0.ret (.flag false)) := ⟨rfl, rfl⟩

theorem test_putQr_v52 :
    sees (exec (.putQr 9 83 0xFF) s0) (fun t =>
        ([82, 83, 84, 127].map (memRead t.fb 0), [83, 127].map (memRead t.fb 5), t.ver.toList, t.out))
      = some ([0x00, 0xBB, 0xB4, 0x87], [0x20, 0xEC], [1, 1, 1, 1, 1, 1], [.ret (.flag true)]) ∧
    exec (.putQr 4 84 0) s0 = .next (s0.ret (.flag false)) := ⟨by decide +kernel, rfl⟩

/-- The line of V48 as its task: `'*'` at columns 5 and 6 of line 2. -/
def blinking : State :=
  { s0 with
    fb := [(389, 0x28), (390, 0x10)]
    task := s0.task.set 2
      { live := true, code := 0x2A, col := 5, row0 := 26, h := 10, inv := 0, colHi := 128, hide := false } }

theorem test_fbClear_v51 :
    sees (exec .fbClear { blinking with ver := #v[0, 128, 128, 0, 0, 0] }) (fun t => (t.fb, t.ver.toList, t.task[2].live))
      = some ([], [1, 129, 129, 1, 1, 1], false) := by decide +kernel

theorem test_tick_v48 :
    sees (exec .tick { blinking with ver := #v[0, 0, 0, 128, 128, 0] })
        (fun t => (t.fb, t.ver.toList, t.task[2].hide, t.blinkPhase))
      = some ([], [0, 0, 0, 130, 130, 0], true, true) := by decide +kernel

theorem test_blinkTick_v48 :
    sees (exec .blinkTick { blinking with
        fb := [], blinkPhase := true, task := blinking.task.set 2 { blinking.task[2] with hide := true } })
      (fun t => (t.fb, t.task[2].hide, t.blinkPhase)) = some ([(389, 0x28), (390, 0x10)], false, false) := by decide +kernel

/-! ### The drain and the ports (V53) -/

/-- V53: page 2 dirty, its first byte `0x01`. -/
def dirty2 : State := { s0 with fb := [(256, 0x01)], ver := #v[0, 0, 1, 0, 0, 0] }

theorem test_drainStep_v53_start :
    sees (exec .drainStep { dirty2 with drainPage := 1 }) (fun t => (t.drainPage, t.drainCol, t.out))
      = some (2, 1, [.ctrlCmd (.pageSelect 2), .ctrlCmd (.columnAddress 0), .ctrlData 0x101, .ret (.flag false)]) := by
  decide +kernel

theorem test_drainStep_v53_end :
    sees (exec .drainStep { dirty2 with drainPage := 2, drainCol := 127 }) (fun t => (t.drainCol, t.sent.toList, t.out))
      = some (0, [0, 0, 1, 0, 0, 0], [.ctrlData 0x100, .ctrlCmd .displayOn, .ret (.flag true)]) := by decide +kernel

theorem test_controller_rows :
    exec (.ctrlData 0xA5) s0 = .next (s0.emit (.ctrlData 0x1A5)) ∧
    exec (.pageSelect 3) s0 = .next (s0.emit (.ctrlCmd (.pageSelect 3))) := ⟨rfl, rfl⟩

/-- R300: reset after a frame was left open and a page drawn. -/
theorem test_reset_r300 :
    exec .reset { dirty2 with rxState := .vpay, delim := true, payCnt := 7, drainPage := 2, drainCol := 9 } = .next s0 := rfl

theorem test_dispatch_reference_r171 :
    exec (.dispatch 6 []) s0 = .next ((s0.emit (.dispatch 6 [])).ret (.bytes [0x01, 0x07])) ∧
    exec (.dispatch 7 [0x00, 0xC8]) s0 = .next ((s0.emit (.dispatch 7 [0x00, 0xC8])).ret (.bytes [0x00, 0xC8])) := ⟨rfl, rfl⟩

/-! ### Witnesses: concrete values that meet the hypotheses of the obligations -/

/-! One theorem `test_meets_<Name>` for each obligation with hypotheses; a clause with a range has its boundary values. -/

/-- One packet pending. -/
def offered (bytes : List Byte) : State := { s0 with pending := [.packet bytes] }

/-- A layout from its eight numbers. -/
def layoutOf (u0 h0 u1 h1 u2 h2 u3 h3 : Nat) : Vector LineLayout 4 :=
  #v[{ upperIndent := BitVec.ofNat 6 u0, height := BitVec.ofNat 6 h0 },
    { upperIndent := BitVec.ofNat 6 u1, height := BitVec.ofNat 6 h1 },
    { upperIndent := BitVec.ofNat 6 u2, height := BitVec.ofNat 6 h2 },
    { upperIndent := BitVec.ofNat 6 u3, height := BitVec.ofNat 6 h3 }]

theorem test_meets_StepRunsTheDecodedInstruction :
    ((offered [0x01, 0x02]).pending = .packet [0x01, 0x02] :: [] ∧ decode [0x01, 0x02] = .ok .stx) ∧
    decodeTableWord 16 0x3036 = some (.getver 0 0) ∧
    ((offered []).pending = .packet [] :: [] ∧ decode [] = .bad .emptyPacket) ∧ s0.pending = [] := by decide +kernel

/-- Legal with heights of 1; a height of 0; sums of 47 and 49; after an event. -/
theorem test_meets_LayoutIsWrittenAtInitTimeOnly :
    (s0.fresh = true ∧
      let l := layoutOf 0 45 0 1 0 1 0 1;
      (∀ x ∈ l.toList, 1 ≤ x.height.toNat) ∧ (l.toList.map fun x => x.upperIndent.toNat + x.height.toNat).sum = 48) ∧
    (let l := layoutOf 2 10 2 10 2 10 12 0;
      ¬((∀ x ∈ l.toList, 1 ≤ x.height.toNat) ∧ (l.toList.map fun x => x.upperIndent.toNat + x.height.toNat).sum = 48)) ∧
    ((layoutOf 2 10 2 10 2 10 2 9).toList.map fun x => x.upperIndent.toNat + x.height.toNat).sum = 47 ∧
    ((layoutOf 2 10 2 10 2 10 2 11).toList.map fun x => x.upperIndent.toNat + x.height.toNat).sum = 49 ∧
    { s0 with fresh := false, pending := [.layout (layoutOf 0 45 0 1 0 1 0 1)] }.fresh = false ∧
    (decode [0x20] = .ok .reset ∧ (nextOf (step (offered [0x20]))).isSome = true) ∧
    (decode [0x23] = .ok .tick ∧ (nextOf (step (offered [0x23]))).isSome = true) := by decide +kernel

theorem test_meets_DecodeOfEncode :
    Instr.wf (.writeBits (2 ^ 64 - 1) 255 255 255) = true ∧ Instr.wf (.renderLine 3 (line20 []) true) = true ∧
    Instr.wf (.fmtBlink 0x08 3 0xFF (codes17 [])) = true := by decide

theorem test_meets_DecodedPacketsAreEncodings : decode [0x67, 0xFF, 0xFF, 0x00] = .ok (.putQr 255 255 0) := by decide +kernel

theorem test_meets_RequestFrameLayout :
    Instr.request (.rdkeys 0x10 0x27DB) = some (.rdkeys, 0x10, [], 0x27DB) ∧
    Instr.request (.wrline 1 (line20 [1]) 0) = some (.wrline, 1, (line20 [1]).toList, 0) := by decide +kernel

theorem test_meets_ResetMeetsEveryInvariant : legalLayout Config.default.lineLayout = true ∧ State.reset.cfg = Config.default :=
  ⟨by decide +kernel, rfl⟩

theorem test_inv_reset : s0.inv := by
  unfold State.inv State.fbInv State.blinkInv State.cmdInv State.errInv State.layoutInv State.verInv
  decide +kernel

theorem test_meets_EveryStepKeepsTheInvariant :
    (offered [0x23]).inv ∧ (nextOf (step (offered [0x23]))).isSome = true :=
  ⟨test_inv_reset, by decide +kernel⟩

/-- An open frame in its payload, the last byte awaited. -/
def lastByte : State := { inField .vpay 1 0x10 (slotOf 2 1 false #v[0, 0] .notReady) with payCnt := 19 }

theorem test_meets_EventsKeepTheRequestInvariant :
    Instr.isEvent .digitA = true ∧ lastByte.rxInv ∧ (nextOf (exec .digitA lastByte)).isSome = true := by
  unfold State.rxInv; decide +kernel

/-- A response at its last byte. -/
def lastCursor : State := { ring .sending .notReady .notReady 0 0 true with txCursor := 14, txLen := 14 }

theorem test_meets_EventsKeepTheCountersInRange :
    Instr.isEvent .digitA = true ∧ lastByte.counterInv ∧ (nextOf (exec .digitA lastByte)).isSome = true ∧
    Instr.isEvent .txDone = true ∧ lastCursor.counterInv ∧ (nextOf (exec .txDone lastCursor)).isSome = true := by
  unfold State.counterInv; decide +kernel

/-- `STX` with one response outstanding, and any other byte with two. -/
theorem test_meets_ByteEventsKeepTheRingInvariant :
    (let s := ring .sending .notReady .notReady 0 0 true;
      s.rxInv ∧ s.ringInv ∧ s.hostOk 0x02 ∧ s.outstanding = 1 ∧ (nextOf (exec (.rxByte 0x02) s)).isSome = true) ∧
    (let s := ring .sending .toBeSend .notReady 1 0 true;
      s.rxInv ∧ s.ringInv ∧ s.hostOk 0x30 ∧ (nextOf (exec (.rxByte 0x30) s)).isSome = true) := by
  unfold State.rxInv State.ringInv State.hostOk; decide +kernel

/-- Two armed slots behind a `SENT` one whose `NUL` is in flight. -/
def twoArmed : State := ring .sent .toBeSend .toBeSend 2 0 true

theorem test_meets_ArmedSlotsWillBeSent :
    (twoArmed.ringInv ∧ ∃ i : Fin 3, (twoArmed.slot i).ack = .toBeSend) ∧
    twoArmed.counterInv ∧ (twoArmed.slot 2).ack = .toBeSend := by
  unfold State.ringInv State.counterInv; decide +kernel

theorem test_meets_NewestArmedSlotWaitsItsTurn :
    twoArmed.ringInv ∧ (1 : Fin 3) ≠ twoArmed.rxIdx ∧ (twoArmed.slot 1).ack = .toBeSend ∧
    (twoArmed.slot twoArmed.rxIdx).ack = .toBeSend := by
  unfold State.ringInv; decide +kernel

theorem test_meets_ReceivingNeverClearsAnOutstandingSlot :
    let s := ring .sending .toBeSend .notReady 1 0 true;
    s.rxInv ∧ (s.slot 0).ack.outstanding = true ∧ (s.slot 0).ack = .sending ∧ (s.slot 1).ack.outstanding = true ∧
    (nextOf (exec (.rxByte 0x02) s)).isSome = true := by
  unfold State.rxInv; decide +kernel

theorem test_meets_PureOperationsReturnTheirResult :
    Instr.pureResult testConfig (.hex2nib 0x43) = some (.okNib true 12) ∧
    Instr.pureResult testConfig (.trim 0x80) = some (.pair 1 4) ∧
    Instr.pureResult testConfig (.validate 7 (line20 [0, 0xC9])) = some (.flag false) := by decide +kernel

theorem test_meets_RunningCrcsNeverMerge : (0 : Half) ≠ 0x8000 := by decide

theorem test_meets_NibbleCodecIsTheTable :
    ([0x30, 0x39, 0x41, 0x46] : List Byte).map (hex2nib true) = [some 0, some 9, some 10, some 15] ∧
    ([0x30, 0x39, 0x41, 0x46] : List Byte).all (fun b => !(decide (0x61 ≤ b.toNat ∧ b.toNat ≤ 0x66))) = true := by decide

/-- A trimmed icon, one trimmed to nothing, one not trimmable, and a code of 127. -/
theorem test_meets_TrimKeepsTheColumnsBetweenTheBorders :
    (127 < (0x80 : Byte).toNat ∧ (glyph testConfig 0x80).trimmable = true ∧ trimGlyph testConfig 0x80 = (1, 4)) ∧
    ((glyph testConfig 0x83).trimmable = true ∧ trimGlyph testConfig 0x83 = (0, 0)) ∧
    (glyph testConfig 0x82).trimmable = false ∧ ¬127 < (0x7F : Byte).toNat := by decide +kernel

theorem test_meets_ValidatorsOfTheCatalog : catalogLegal s0.cfg = true := by decide +kernel

theorem test_meets_RxByteSelectsItsRule :
    (s0.rxState = .vf ∧ s0.delim = false) ∧
    ({ s0 with delim := true }.rxState = .vf ∧ { s0 with delim := true }.delim = true) ∧
    (∀ x : RxState, x = .vpn ∨ x = .vcmd ∨ x = .vpay ∨ x = .vcrc →
      (inField x 0 0 (Slot.cleared 0)).rxState ≠ .vf ∧ (inField x 0 0 (Slot.cleared 0)).rxState = x) ∧
    hex2nib s0.cfg.hexAcceptLower 0x47 = none ∧ hex2nib s0.cfg.hexAcceptLower 0x46 = some 15 :=
  ⟨by decide, by decide, fun x h => ⟨by rcases h with rfl | rfl | rfl | rfl <;> decide, rfl⟩, by decide, by decide⟩

theorem test_meets_WireSymbolsAreReceived :
    Instr.wireByte .stx = some 0x02 ∧
    (Instr.digitValue .digitF = some 15 ∧ (inField .vpn 0 0 (Slot.cleared 0)).rxState = .vpn ∧
      (inField .vpn 0 0 (Slot.cleared 0)).nibCnt = 0) := by decide

/-- The target is the slot itself where it is `NOT_READY`, and the next one otherwise: every `ack` of the target. -/
theorem test_meets_StxSteersAndClearsNoiseDoesNot :
    (let s := ring .notReady .notReady .notReady 0 0 false; (s.slot s.rxIdx).ack = .notReady) ∧
    (let s := ring .sending .toBeSend .notReady 0 0 true;
      (s.slot s.rxIdx).ack ≠ .notReady ∧ (s.slot (s.rxIdx + 1)).ack = .toBeSend) ∧
    (let s := ring .sending .toBeSend .toBeSend 2 0 true;
      (s.slot s.rxIdx).ack ≠ .notReady ∧ (s.slot (s.rxIdx + 1)).ack = .sending) ∧
    (let s := ring .sent .sent .sent 2 2 false;
      (s.slot s.rxIdx).ack ≠ .notReady ∧ (s.slot (s.rxIdx + 1)).ack = .sent) := by decide +kernel

theorem test_meets_ExpectedEtxDispatchesAndArms :
    ((withSlot (slotOf 6 1 false #v[0, 0] .notReady)).slot 0).err = false ∧
    ((withSlot (slotOf 6 1 true #v[0, 0] .notReady)).slot 0).err = true := by decide +kernel

theorem test_meets_PacketNumberField :
    (inField .vpn 0 0 (Slot.cleared 0)).nibCnt = 0 ∧ (inField .vpn 1 0 (Slot.cleared 0)).nibCnt ≠ 0 := by decide

/-- Ids 0, 1, 8 and 9; commands without and with a payload. -/
theorem test_meets_CommandField :
    (let s := inField .vcmd 1 0x00 (Slot.cleared 0);
      s.nibCnt ≠ 0 ∧ (s.acc ||| (0 : Nibble).zeroExtend 8) = 0 ∧
      s.cfg.catalogSize ≤ (s.acc ||| (9 : Nibble).zeroExtend 8).toNat ∧
      ((s.acc ||| (1 : Nibble).zeroExtend 8) ≠ 0 ∧ (s.acc ||| (1 : Nibble).zeroExtend 8).toNat < s.cfg.catalogSize) ∧
      ((s.acc ||| (8 : Nibble).zeroExtend 8) ≠ 0 ∧ (s.acc ||| (8 : Nibble).zeroExtend 8).toNat < s.cfg.catalogSize)) ∧
    reqLen testConfig 1 = 0 ∧ reqLen testConfig 2 ≠ 0 := by decide +kernel

/-- The first byte of 20, the last of 20, the last of two accepted and rejected. -/
theorem test_meets_PayloadField :
    (let s := inField .vpay 1 0 (slotOf 2 1 false #v[0, 0] .notReady);
      s.nibCnt ≠ 0 ∧ s.payCnt.toNat = (0 : Fin 20).val ∧ 0 + 1 ≠ reqLen s.cfg (s.slot s.rxIdx).cmd) ∧
    (lastByte.nibCnt ≠ 0 ∧ lastByte.payCnt.toNat = (19 : Fin 20).val ∧
      19 + 1 = reqLen lastByte.cfg (lastByte.slot lastByte.rxIdx).cmd ∧
      validate lastByte.cfg 2 (line20 [0x10]) = true) ∧
    (reqLen testConfig 7 = 1 + 1 ∧ validate testConfig 7 (line20 [0, 0xC8]) = true ∧
      validate testConfig 7 (line20 [0, 0xC9]) = false) := by decide +kernel

theorem test_meets_ChecksumField :
    (inField .vcrc 2 0 (Slot.cleared 0)).nibCnt ≠ 3 ∧
    (let s := inField .vcrc 3 0 { Slot.cleared 0 with crcRx := 0x0D9C, crcCalc := 0xD9CA };
      s.nibCnt = 3 ∧ ((s.slot s.rxIdx).crcRx <<< 4 ||| (10 : Nibble).zeroExtend 16) = (s.slot s.rxIdx).crcCalc ∧
      ((s.slot s.rxIdx).crcRx <<< 4 ||| (11 : Nibble).zeroExtend 16) ≠ (s.slot s.rxIdx).crcCalc) := by decide +kernel

theorem test_meets_FieldFrontEnd :
    ((0x41 : Byte) ≠ 0x02 ∧ (0x41 : Byte) ≠ 0x03 ∧ hex2nib s0.cfg.hexAcceptLower 0x41 = some 10) ∧
    ((inField .vpn 0 0 (Slot.cleared 0)).rxState = .vpn ∧ (inField .vpn 0 0 (Slot.cleared 0)).nibCnt = 0) ∧
    ((inField .vpay 1 0 (Slot.cleared 0)).rxState = .vpay ∧ (inField .vpay 1 0 (Slot.cleared 0)).nibCnt ≠ 0) ∧
    (inField .vcrc 0 0 (Slot.cleared 0)).rxState = .vcrc ∧ s0.rxState = .vf ∧
    ((0x40 : Byte) ≠ 0x02 ∧ (0x40 : Byte) ≠ 0x03 ∧ hex2nib s0.cfg.hexAcceptLower 0x40 = none ∧
      hex2nib s0.cfg.hexAcceptLower 0x47 = none) := by decide +kernel

/-- The state after reset with one answer of the dispatcher waiting. -/
def answered : State := { s0 with replies := [{ calls := [], resp := #v[0x00, 0xC8] }] }

/-- With a payload that is validated, and with none. -/
theorem test_meets_GoodFrameIsDispatchedAndArmed :
    (Instr.request (.buzparam 5 0 0xC8 0xCEA9) = some (.buzparam, 5, [0, 0xC8], 0xCEA9) ∧ catalogLegal s0.cfg = true ∧
      s0.accepts ∧ requestValid s0.cfg .buzparam [0, 0xC8] ∧
      0xCEA9 = crc16 s0.cfg.crcInit (frameBody 5 (cmdId s0.cfg .buzparam) [0, 0xC8])) ∧
    (Instr.request (.getver 1 0xD9CA) = some (.getver, 1, [], 0xD9CA) ∧ requestValid s0.cfg .getver [] ∧
      0xD9CA = crc16 s0.cfg.crcInit (frameBody 1 (cmdId s0.cfg .getver) [])) := by
  unfold State.accepts requestValid; decide +kernel

theorem test_meets_WrongCrcIsAnsweredWithErr :
    Instr.request (.buzparam 5 0 0xC8 0xCEA8) = some (.buzparam, 5, [0, 0xC8], 0xCEA8) ∧ catalogLegal s0.cfg = true ∧
    s0.accepts ∧ requestValid s0.cfg .buzparam [0, 0xC8] ∧
    0xCEA8 ≠ crc16 s0.cfg.crcInit (frameBody 5 (cmdId s0.cfg .buzparam) [0, 0xC8]) := by
  unfold State.accepts requestValid; decide +kernel

theorem test_meets_RejectedPayloadIsAnsweredWithErr :
    Instr.request (.buzparam 5 0 0xC9 0x0E68) = some (.buzparam, 5, [0, 0xC9], 0x0E68) ∧ catalogLegal s0.cfg = true ∧
    s0.accepts ∧ ¬requestValid s0.cfg .buzparam [0, 0xC9] := by
  unfold State.accepts requestValid; decide +kernel

theorem test_meets_DispatchOnlyAtAGoodEtx :
    (let s := { withSlot (slotOf 6 1 false #v[0, 0] .notReady) with delim := true };
      s.rxState = .vf ∧ s.delim = true ∧ (s.slot s.rxIdx).err = false) ∧
    ¬(s0.rxState = .vf ∧ (0x03 : Byte) = 0x03 ∧ s0.delim = true ∧ (s0.slot s0.rxIdx).err = false) := by decide +kernel

theorem test_meets_RequestIsAnsweredOnce :
    Instr.request (.buzparam 5 0 0xC8 0xCEA9) = some (.buzparam, 5, [0, 0xC8], 0xCEA9) ∧
    catalogLegal answered.cfg = true ∧ answered.accepts ∧ requestValid answered.cfg .buzparam [0, 0xC8] ∧
    0xCEA9 = crc16 answered.cfg.crcInit (frameBody 5 (cmdId answered.cfg .buzparam) [0, 0xC8]) ∧
    answered.ringInv ∧ answered.txBusy = false ∧
    answered.replies = { calls := [], resp := #v[0x00, 0xC8] } :: [] := by
  unfold State.accepts requestValid State.ringInv; decide +kernel

theorem test_meets_DispatcherPort :
    answered.replies = { calls := [], resp := #v[0x00, 0xC8] } :: [] ∧ catalogLegal s0.cfg = true ∧ s0.replies = [] ∧
    (line20 []).toList.length = 20 ∧ ([0, 0xC8] : List Byte).length = 2 := by decide +kernel

/-- Each of the four parts; the cursor at 1 and at 14, the last byte and one before it. -/
theorem test_meets_TxNextChoosesTheByte :
    ((s0.slot s0.txIdx).ack = .notReady ∧ (s0.slot (s0.txIdx + 1)).ack ≠ .toBeSend) ∧
    ((twoArmed.slot twoArmed.txIdx).ack = .sent ∧ (twoArmed.slot (twoArmed.txIdx + 1)).ack = .toBeSend) ∧
    ((ring .toBeSend .notReady .notReady 0 0 false).slot 0).ack = .toBeSend ∧
    (let s := { ring .sending .notReady .notReady 0 0 true with txCursor := 1 };
      (s.slot s.txIdx).ack = .sending ∧ s.txCursor.toNat = (0 : Fin 14).val + 1) ∧
    ((lastCursor.slot lastCursor.txIdx).ack = .sending ∧ lastCursor.txCursor.toNat = (13 : Fin 14).val + 1 ∧
      (13 : Fin 14).val + 1 = lastCursor.txLen.toNat) := by decide +kernel

theorem test_meets_ArmingAndPumping :
    twoArmed.txBusy = true ∧ s0.txBusy = false ∧ s0.txNext.2 = none ∧ twoArmed.txNext.2 = some 0x02 := by decide +kernel

theorem test_meets_WholeResponseIsStreamed :
    let s := withSlot (slotOf 6 1 false #v[1, 7] .toBeSend);
    (s.slot s.txIdx).ack = .toBeSend := by decide +kernel

theorem test_meets_ValueRowsAndPorts : s0.cfg.errMask = 0x80 := by decide

/-! #### The framebuffer -/

theorem test_meets_WriteBitsSetsItsPixels : s0.fbInv ∧ blinking.fbInv := by
  unfold State.fbInv; decide +kernel

theorem test_meets_WriteBitsIsItsSingleBits : s0.fbInv ∧ blinking.fbInv := by
  unfold State.fbInv; decide +kernel

/-- A page written and a page not: the last column and the first past it, the last row and the first past it. -/
theorem test_meets_WriteBitsRaisesEachWrittenPageOnce :
    (127 < 128 ∧ 44 ≤ 47 ∧ 47 < 44 + 9 ∧ 47 / 8 = (5 : Fin 6).val) ∧ ¬(128 < 128) ∧
    (∀ p : Fin 6, 48 / 8 ≠ p.val) := by decide

/-- A glyph that just fits, one that does not, one hidden; the last page that rows 38 to 47 touch and the first they do not;
four columns counted, and none in a glyph trimmed to nothing. -/
theorem test_meets_GlyphAndBlankColumns :
    s0.fbInv ∧ 124 + ((trimGlyph s0.cfg 0x81).2 - (trimGlyph s0.cfg 0x81).1) ≤ 128 ∧
    128 < 125 + ((trimGlyph s0.cfg 0x81).2 - (trimGlyph s0.cfg 0x81).1) ∧ (glyph s0.cfg 0x81).isBlinking = true ∧
    (38 ≤ 47 ∧ 47 < 38 + 10 ∧ 47 / 8 = (5 : Fin 6).val) ∧ (∀ g, 38 ≤ g → g / 8 ≠ (3 : Fin 6).val) ∧
    (List.range ((trimGlyph s0.cfg 0x81).2 - (trimGlyph s0.cfg 0x81).1)).countP (fun j => decide (124 + j < 128)) = 4 ∧
    (trimGlyph s0.cfg 0x83).2 - (trimGlyph s0.cfg 0x83).1 = 0 ∧ ¬(128 < 128) :=
  ⟨by unfold State.fbInv; decide +kernel, by decide +kernel, by decide +kernel, by decide +kernel, by decide,
    fun g h => by show g / 8 ≠ 3; omega, by decide +kernel, by decide +kernel, by decide⟩

theorem test_meets_RenderReplacesItsLineAlone :
    s0.fbInv ∧ legalLayout s0.layout = true ∧ glyphsLegal s0.cfg = true ∧
    blinking.fbInv ∧ blinking.cfg = s0.cfg ∧ blinking.layout = s0.layout ∧ blinking.blinkPhase = s0.blinkPhase ∧
    (lineHas s0.layout 1 14 ∧ lineHas s0.layout 1 23 ∧ ¬lineHas s0.layout 1 13 ∧ ¬lineHas s0.layout 1 24) ∧
    pageOf s0.layout 1 2 ∧ ¬pageOf s0.layout 1 3 := by
  refine ⟨by unfold State.fbInv; decide, by decide +kernel, by decide +kernel, by unfold State.fbInv; decide, rfl, rfl, rfl,
    by unfold lineHas; decide +kernel, ⟨16, by unfold lineHas; decide +kernel⟩, ?_⟩
  rintro ⟨g, ⟨-, h⟩, h3⟩
  have h' : g < 24 := h
  omega

/-- A line that records a glyph and one that records none, `INTERNAL_KEEPS_TASK` both ways. -/
theorem test_meets_RenderKeepsTheBlinkTask :
    4 ≤ 4 ∧ (3 : Fin 4) ≠ 2 ∧ s0.cfg.internalKeepsTask = true ∧
    ({ testConfig with internalKeepsTask := false } : Config).internalKeepsTask = false ∧
    recordedGlyph s0.cfg (line20 [0, 2, 0x2A]) = some { code := 0x2A, col := 1, colHi := 128 } ∧
    recordedGlyph { testConfig with internalKeepsTask := false } (line20 [0x81, 2]) =
      some { code := 0x81, col := 0, colHi := 128 } ∧
    recordedGlyph s0.cfg (line20 [0, 2, 0x41]) = none := by decide +kernel

/-- Line 4, a text of 20 bytes, a hit and a miss. -/
theorem test_meets_PutLineRejectsHitsOrRenders :
    4 ≤ 4 ∧ 19 < (List.replicate 20 (0 : Byte)).length ∧
    (let s := { s0 with cacheValid := s0.cacheValid.set 3 true };
      (3 = (3 : Fin 4).val ∧ (List.replicate 19 (0 : Byte)).length ≤ 19) ∧
      (s.cacheValid[3] = true ∧ line20 (List.replicate 19 0) = s.linebuf[3]) ∧
      ¬(s.cacheValid[0] = true ∧ line20 (List.replicate 19 0) = s.linebuf[0])) := by decide +kernel

/-- The last line and the first value that is none. -/
theorem test_meets_FormatRowsPutALine :
    (Instr.format s0.cfg (.fmtAl 0x00 3 0x80 (codes17 [0x48])) = some (1, 0x00, 3, 0x80, codes17 [0x48]) ∧
      (3 : Byte).toNat = ((3 : Fin 4).val : Nat)) ∧
    Instr.format s0.cfg (.fmtAl 0x00 4 0x80 (codes17 [0x48])) = some (1, 0x00, 4, 0x80, codes17 [0x48]) ∧
    4 ≤ (4 : Byte).toNat := ⟨⟨rfl, by decide⟩, rfl, by decide⟩

theorem test_meets_InversionComplementsTheLine :
    s0.fbInv ∧ legalLayout s0.layout = true ∧ glyphsLegal s0.cfg = true ∧ s0.cfg.fmtInv ≠ s0.cfg.fmtAl ∧
    s0.cfg.fmtInv ≠ s0.cfg.fmtAr ∧ (line20 [0x80, 0xFE])[1].getLsbD s0.cfg.fmtInv.val = false := by
  unfold State.fbInv; decide +kernel

theorem test_meets_OnlyThreeFlagsMatter :
    (0xFE : Byte).getLsbD s0.cfg.fmtInv.val = (line20 [0x80, 0x02])[1].getLsbD s0.cfg.fmtInv.val ∧
    (0xFE : Byte).getLsbD s0.cfg.fmtAl.val = (line20 [0x80, 0x02])[1].getLsbD s0.cfg.fmtAl.val ∧
    (0xF8 : Byte).getLsbD s0.cfg.fmtAl.val = false ∧
    (0xF8 : Byte).getLsbD s0.cfg.fmtAr.val = (line20 [0x80, 0x08])[1].getLsbD s0.cfg.fmtAr.val := by
  decide +kernel

/-- The last offset that fits and the first that does not; versions 3, 7 and one out of range. -/
theorem test_meets_PutQrReplacesItsBytes :
    83 + 45 ≤ 128 ∧ 128 < 84 + 45 ∧ s0.fbInv ∧
    ((0 : Fin 5).val + 3 = if 3 ≤ 3 ∧ 3 ≤ 7 then 3 else 4) ∧ ((4 : Fin 5).val + 3 = if 3 ≤ 7 ∧ 7 ≤ 7 then 7 else 4) ∧
    ((1 : Fin 5).val + 3 = if 3 ≤ 8 ∧ 8 ≤ 7 then 8 else 4) := by
  unfold State.fbInv; decide

theorem test_meets_FbClearClears : blinking.fbInv := by unfold State.fbInv; decide

theorem test_meets_TickTogglesAndRedraws :
    blinking.task[2].live = true ∧ ∀ line : Fin 4, s0.task[line.val].live = false := by decide +kernel

/-! #### The drain -/

/-- A clean page, a page started, a page open, column 127. -/
theorem test_meets_DrainStepIsItsPseudocode :
    (s0.drainCol = 0 ∧ s0.ver[(s0.drainPage + 1).val] = s0.sent[(s0.drainPage + 1).val]) ∧
    (let s := { dirty2 with drainPage := 1 };
      s.drainCol ≠ 127 ∧ s.ver[(s.drainPage + 1).val] ≠ s.sent[(s.drainPage + 1).val]) ∧
    ({ dirty2 with drainCol := 126 }.drainCol ≠ 0 ∧ { dirty2 with drainCol := 126 }.drainCol ≠ 127) ∧
    { dirty2 with drainCol := 127 }.drainCol = 127 := by decide +kernel

/-- The next page dirty (no clean call) and the sixth (five clean calls). -/
theorem test_meets_FlushSendsTheNextDirtyPage :
    (let s := { dirty2 with drainPage := 1 };
      s.drainCol = 0 ∧ s.ver[(s.drainPage + 1 + 0).val] ≠ s.sent[(s.drainPage + 1 + 0).val] ∧
      ∀ j : Fin 6, j < 0 → s.ver[(s.drainPage + 1 + j).val] = s.sent[(s.drainPage + 1 + j).val]) ∧
    (let s := { dirty2 with drainPage := 2 };
      s.drainCol = 0 ∧ s.ver[(s.drainPage + 1 + 5).val] ≠ s.sent[(s.drainPage + 1 + 5).val] ∧
      ∀ j : Fin 6, j < 5 → s.ver[(s.drainPage + 1 + j).val] = s.sent[(s.drainPage + 1 + j).val]) := by decide +kernel

theorem test_meets_EveryRowCompletes :
    (∀ line content isInternal, Instr.fbClear = .renderLine line content isInternal → line < 4) ∧
    (∀ line content isInternal, Instr.renderLine 3 (line20 []) true = .renderLine line content isInternal → line < 4) := by
  constructor
  · intro line content isInternal h
    cases h
  · intro line content isInternal h
    injection h with h
    omega

end Sys2Proof.Tests
end

/-! The step by its next input (00_scope.md R12): one equation for each case of the queue, then O1. -/

namespace Sys2Proof.Machine

/-- The idle block holds its state (R291). -/
theorem step_of_pending_nil {s : State} (hs : s.pending = []) : step s = .next s := by
  simp [step, hs]

theorem step_of_packet_ok {s : State} {bytes : List Byte} {rest : List Input} {i : Instr}
    (hs : s.pending = .packet bytes :: rest) (hd : decode bytes = .ok i) :
    step s = exec i { s with pending := rest, fresh := false } := by
  simp [step, hs, hd]

theorem step_of_packet_bad {s : State} {bytes : List Byte} {rest : List Input} {e : DecodeError}
    (hs : s.pending = .packet bytes :: rest) (hd : decode bytes = .bad e) :
    step s = .refused (.undecodable bytes) := by
  simp [step, hs, hd]

@[simp] theorem State.withFetchWord_pending (s : State) (nbits w : Nat) :
    (s.withFetchWord nbits w).pending = .packet (tablePacket nbits w) :: s.pending := rfl

/-- Taking a placed table word from the queue again leaves the state it was placed in. -/
theorem State.withFetchWord_taken (s : State) (nbits w : Nat) :
    { s.withFetchWord nbits w with pending := s.pending, fresh := false } = { s with fresh := false } := rfl

/-- Reading a table word is decoding its packet (log 3). -/
theorem decodeTableWord_eq_some_iff {nbits w : Nat} {i : Instr} :
    decodeTableWord nbits w = some i ↔ decode (tablePacket nbits w) = .ok i := by
  unfold decodeTableWord
  cases decode (tablePacket nbits w) with
  | ok j => simp
  | bad e => simp

/-- A placed table word is the next packet, so its step is that of a packet that decodes. -/
theorem step_withFetchWord (s : State) {nbits w : Nat} {i : Instr} (hw : decodeTableWord nbits w = some i) :
    step (s.withFetchWord nbits w) = exec i { s with fresh := false } := by
  rw [step_of_packet_ok (s.withFetchWord_pending nbits w) (decodeTableWord_eq_some_iff.mp hw), s.withFetchWord_taken]

/-- Settles O1, one clause for each case of the queue. -/
theorem stepRunsTheDecodedInstruction : Obligations.StepRunsTheDecodedInstruction :=
  ⟨fun _ _ _ _ hs hd => step_of_packet_ok hs hd,
   fun s _ _ _ hw => step_withFetchWord s hw,
   fun _ _ _ _ hs hd => step_of_packet_bad hs hd,
   fun _ hs => step_of_pending_nil hs⟩

end Sys2Proof.Machine

/-! The registers in two halves: `Link`, what the request and the response machine's invariants read, and `Display`, what
the invariants of the rendering side read. An operation of one half keeps the other half's invariants by these projections. -/

namespace Sys2Proof.Machine

/-! ### The link's registers -/

/-- The registers the request and the response machine's invariants read (R20 to R39), and the parameters. -/
structure Link where
  slots : Vector Slot 3
  rxState : RxState
  delim : Bool
  nibCnt : BitVec 2
  payCnt : BitVec 5
  rxIdx : Fin 3
  txIdx : Fin 3
  txCursor : BitVec 4
  txLen : BitVec 4
  txBusy : Bool
  cfg : Config

/-- The link's registers of a state. -/
def State.link (s : State) : Link where
  slots := s.slots
  rxState := s.rxState
  delim := s.delim
  nibCnt := s.nibCnt
  payCnt := s.payCnt
  rxIdx := s.rxIdx
  txIdx := s.txIdx
  txCursor := s.txCursor
  txLen := s.txLen
  txBusy := s.txBusy
  cfg := s.cfg

theorem State.link_eq_iff {s t : State} : t.link = s.link ↔
    t.slots = s.slots ∧ t.rxState = s.rxState ∧ t.delim = s.delim ∧ t.nibCnt = s.nibCnt ∧ t.payCnt = s.payCnt ∧
      t.rxIdx = s.rxIdx ∧ t.txIdx = s.txIdx ∧ t.txCursor = s.txCursor ∧ t.txLen = s.txLen ∧ t.txBusy = s.txBusy ∧
      t.cfg = s.cfg := by
  simp only [State.link, Link.mk.injEq]

theorem State.rxInv_of_link {s t : State} (h : t.link = s.link) (hs : s.rxInv) : t.rxInv := by
  obtain ⟨hslots, hrx, hdelim, -, -, hidx, -⟩ := State.link_eq_iff.mp h
  simpa only [State.rxInv, State.rxSlot, State.slot, hslots, hrx, hdelim, hidx] using hs

theorem State.counterInv_of_link {s t : State} (h : t.link = s.link) (hs : s.counterInv) : t.counterInv := by
  obtain ⟨hslots, hrx, -, hnib, hpay, hidx, htx, hcur, hlen, -, hcfg⟩ := State.link_eq_iff.mp h
  simpa only [State.counterInv, State.rxSlot, State.slot, hslots, hrx, hnib, hpay, hidx, htx, hcur, hlen, hcfg] using hs

/-! ### The display's registers -/

/-- The registers the invariants of the rendering side read (R43 to R48, R54), and the parameters. -/
structure Display where
  fb : Memory
  ver : Vector Nat 6
  sent : Vector Nat 6
  task : Vector BlinkTask 4
  blinkPhase : Bool
  layout : Vector LineLayout 4
  cfg : Config

/-- The display's registers of a state. -/
def State.display (s : State) : Display where
  fb := s.fb
  ver := s.ver
  sent := s.sent
  task := s.task
  blinkPhase := s.blinkPhase
  layout := s.layout
  cfg := s.cfg

theorem State.display_eq_iff {s t : State} : t.display = s.display ↔
    t.fb = s.fb ∧ t.ver = s.ver ∧ t.sent = s.sent ∧ t.task = s.task ∧ t.blinkPhase = s.blinkPhase ∧
      t.layout = s.layout ∧ t.cfg = s.cfg := by
  simp only [State.display, Display.mk.injEq]

theorem State.cfg_of_display {s t : State} (h : t.display = s.display) : t.cfg = s.cfg := congrArg Display.cfg h

/-! ### Which operations leave a half alone -/

theorem State.renderLine_link (s : State) (line : Fin 4) (content : Vector Byte 20) (isInternal : Bool) :
    (s.renderLine line content isInternal).link = s.link := by
  rw [State.renderLine_frame]; simp only [State.link]

theorem State.putLine_link (s : State) (text : List Byte) (line : Nat) : (s.putLine text line).1.link = s.link := by
  rw [State.putLine_frame]; simp only [State.link]

theorem State.putQr_link (s : State) (version offset : Nat) (contrast : Byte) :
    (s.putQr version offset contrast).1.link = s.link := by
  rw [State.putQr_frame]; simp only [State.link]

theorem State.fbClear_link (s : State) : s.fbClear.link = s.link := by
  rw [State.fbClear_frame]; simp only [State.link]

theorem State.blinkTick_link (s : State) : s.blinkTick.link = s.link := by
  rw [State.blinkTick_frame]; simp only [State.link]

theorem State.drainStep_link (s : State) : s.drainStep.1.link = s.link := by
  rw [State.drainStep_frame]; simp only [State.link]

theorem State.dispatch_link (s : State) (id : Byte) (payload : List Byte) : (s.dispatch id payload).1.link = s.link := by
  rw [State.dispatch_frame]; simp only [State.link]

theorem State.txPump_display (s : State) : s.txPump.display = s.display := by
  rw [State.txPump_frame]; simp only [State.display]

theorem State.txNext_display (s : State) : s.txNext.1.display = s.display := by
  rw [State.txNext_frame]; simp only [State.display]

theorem State.arm_display (s : State) (i : Fin 3) : (s.arm i).display = s.display := by
  rw [State.arm_frame]; simp only [State.display]

theorem State.errorPath_display (s : State) : s.errorPath.display = s.display := by
  rw [State.errorPath_frame]; simp only [State.display]

/-! ### Slots after the small updates of a slot -/

theorem State.slot_setAck (s : State) (i j : Fin 3) (a : Ack) :
    (s.setAck i a).slot j = if j = i then { s.slot j with ack := a } else s.slot j := by
  rw [State.setAck, State.slot_modSlot]
  split
  · next h => rw [h]
  · rfl

theorem State.slot_setErr (s : State) (i j : Fin 3) :
    (s.setErr i).slot j = if j = i then { s.slot j with err := true } else s.slot j := by
  rw [State.setErr, State.slot_modSlot]
  split
  · next h => rw [h]
  · rfl

theorem State.slot_clearSlot (s : State) (i j : Fin 3) :
    (s.clearSlot i).slot j = if j = i then Slot.cleared s.cfg.crcInit else s.slot j :=
  State.slot_modSlot s i j _

end Sys2Proof.Machine

/-! What the response machine does to the ring (R180 to R190): a pump finds nothing to send, starts an armed slot or streams
a byte of the slot under `tx_idx`; each slot's `ack` goes on by at most one step, and nothing else of a slot changes. -/

namespace Sys2Proof.Machine

/-! ### The progress of a slot -/

/-- A slot after something of the response machine ran: its `ack` as it was, or one step further (R28), the rest as it was. -/
def Slot.Advances (sl sl' : Slot) : Prop :=
  sl' = sl ∨ (sl.ack = .toBeSend ∧ sl' = { sl with ack := .sending }) ∨ (sl.ack = .sending ∧ sl' = { sl with ack := .sent })

theorem Slot.Advances.refl (sl : Slot) : sl.Advances sl := .inl rfl

/-- Only `ack` goes on. -/
theorem Slot.Advances.eq_withAck {sl sl' : Slot} (h : sl.Advances sl') : sl' = { sl with ack := sl'.ack } := by
  obtain rfl | ⟨-, rfl⟩ | ⟨-, rfl⟩ := h <;> rfl

theorem Slot.Advances.err_eq {sl sl' : Slot} (h : sl.Advances sl') : sl'.err = sl.err := by rw [h.eq_withAck]

theorem Slot.Advances.cmd_eq {sl sl' : Slot} (h : sl.Advances sl') : sl'.cmd = sl.cmd := by rw [h.eq_withAck]

/-- A slot is `NOT_READY` afterwards exactly where it was before. -/
theorem Slot.Advances.notReady_iff {sl sl' : Slot} (h : sl.Advances sl') : sl'.ack = .notReady ↔ sl.ack = .notReady := by
  obtain rfl | ⟨ha, rfl⟩ | ⟨ha, rfl⟩ := h
  · rfl
  · simp [ha]
  · simp [ha]

/-- A slot being sent is not put back in the queue. -/
theorem Slot.Advances.ne_toBeSend {sl sl' : Slot} (h : sl.Advances sl') (hs : sl.ack = .sending) : sl'.ack ≠ .toBeSend := by
  obtain rfl | ⟨ha, rfl⟩ | ⟨ha, rfl⟩ := h
  · simp [hs]
  · simp [hs] at ha
  · simp

/-! ### What a pump does -/

/-- The length of the response under `tx_idx`: the one `TX_FILL` is about to store where the cursor is 1, and `tx_len`
afterwards (R184, R185). -/
def State.streamLen (s : State) : BitVec 4 :=
  if s.txCursor = 1 then BitVec.ofNat 4 (10 + 2 * respLen s.cfg (s.slot s.txIdx).cmd) else s.txLen

@[simp] theorem State.setBusy_streamLen (s : State) (v : Bool) : (s.setBusy v).streamLen = s.streamLen := rfl

/-- Streaming leaves the slots alone until the last byte, with which the slot under `tx_idx` is `SENT` (R187). -/
theorem State.txStream_slots (s : State) :
    s.txStream.1.slots = if s.txCursor = s.streamLen then (s.setAck s.txIdx .sent).slots else s.slots := by
  unfold State.txStream State.streamLen
  by_cases hc : s.txCursor = 1
  · simp only [hc, if_true, State.txFill_txCursor, State.txFill_txLen, sub_left_inj]
    split <;> rfl
  · simp only [hc, if_false, sub_left_inj]
    split <;> rfl

theorem State.txStream_slot (s : State) (j : Fin 3) :
    s.txStream.1.slot j = if s.txCursor = s.streamLen then (s.setAck s.txIdx .sent).slot j else s.slot j := by
  have h := s.txStream_slots
  split
  · next hc => exact State.slot_congr (s.setAck s.txIdx .sent) _ (h.trans (if_pos hc)) j
  · next hc => exact State.slot_congr s _ (h.trans (if_neg hc)) j

theorem State.txStream_txCursor (s : State) : s.txStream.1.txCursor = s.txCursor + 1 := by
  unfold State.txStream
  dsimp only
  split <;> split <;> rfl

theorem State.txStream_txLen (s : State) : s.txStream.1.txLen = s.streamLen := by
  unfold State.txStream State.streamLen
  dsimp only
  split <;> split <;> rfl

theorem State.txStream_txIdx (s : State) : s.txStream.1.txIdx = s.txIdx := by rw [State.txStream_frame]

/-- The state with the first byte of slot `i` on the link: the slot is being sent, under `tx_idx`, the cursor at 1 (R183). -/
def State.started (s : State) (i : Fin 3) : State :=
  ({ s.setAck i .sending with txIdx := i, txCursor := 1 } : State).txPut STX

theorem State.started_txIdx (s : State) (i : Fin 3) : (s.started i).txIdx = i := rfl
theorem State.started_txCursor (s : State) (i : Fin 3) : (s.started i).txCursor = 1 := rfl

theorem State.started_slot (s : State) (i j : Fin 3) : (s.started i).slot j = (s.setAck i .sending).slot j := rfl

/-- What `TX_PUMP` can do: nothing to send; an armed slot started, the one under `tx_idx` or the next; a byte of the slot
under `tx_idx` streamed (R189, R190). -/
theorem State.txPump_cases (s : State) :
    ((s.slot s.txIdx).ack.idle = true ∧ (s.slot (ringNext s.txIdx)).ack ≠ .toBeSend ∧ s.txPump = s.setBusy false) ∨
    (∃ i : Fin 3, (s.slot i).ack = .toBeSend ∧ (i = s.txIdx ∨ (s.slot s.txIdx).ack.idle = true ∧ i = ringNext s.txIdx) ∧
      s.txPump = s.started i) ∨
    ((s.slot s.txIdx).ack = .sending ∧ ∃ b, s.txPump = s.txStream.1.txPut b) := by
  unfold State.txPump
  rcases s.txNext_cases with ⟨hidle, hnext, h⟩ | ⟨i, harmed, hi, h⟩ | ⟨hsend, h⟩
  · exact .inl ⟨hidle, hnext, by rw [h]⟩
  · exact .inr (.inl ⟨i, harmed, hi, by rw [h]; rfl⟩)
  · exact .inr (.inr ⟨hsend, _, by rw [h]; rfl⟩)

/-- A pump lets each slot go on by at most one step. -/
theorem State.txPump_advances (s : State) (j : Fin 3) : (s.slot j).Advances (s.txPump.slot j) := by
  rcases s.txPump_cases with ⟨-, -, h⟩ | ⟨i, harmed, -, h⟩ | ⟨hsend, b, h⟩
  · rw [h]; exact .refl _
  · rw [h, State.started_slot, State.slot_setAck]
    split
    · next hj => subst hj; exact .inr (.inl ⟨harmed, rfl⟩)
    · exact .refl _
  · rw [h, State.txPut_slot, State.txStream_slot, State.slot_setAck]
    split
    · split
      · next hj => subst hj; exact .inr (.inr ⟨hsend, rfl⟩)
      · exact .refl _
    · exact .refl _

theorem State.txDone_advances (s : State) (j : Fin 3) : (s.slot j).Advances (s.txDone.slot j) :=
  (s.setBusy false).txPump_advances j

/-- `ARM` puts the slot in the queue; from there each slot goes on by at most one step (R181). -/
theorem State.arm_advances (s : State) (i j : Fin 3) : ((s.setAck i .toBeSend).slot j).Advances ((s.arm i).slot j) := by
  unfold State.arm
  dsimp only
  split
  · exact .refl _
  · exact State.txPump_advances _ j

theorem State.arm_advances_other (s : State) {i j : Fin 3} (h : j ≠ i) : (s.slot j).Advances ((s.arm i).slot j) := by
  simpa only [State.slot_setAck, h, if_false] using s.arm_advances i j

theorem State.errorPath_advances_other (s : State) {j : Fin 3} (h : j ≠ s.rxIdx) :
    (s.slot j).Advances (s.errorPath.slot j) := by
  have := (s.setErr s.rxIdx).arm_advances_other h
  rwa [State.slot_setErr, if_neg h] at this

/-! ### The cursor of the slot being sent (R37, R38) -/

/-- The third clause of `State.counterInv`: the cursor of a slot being sent is 1, or at most `tx_len`. -/
def State.cursorOk (s : State) : Prop :=
  (s.slot s.txIdx).ack = .sending →
    s.txCursor = 1 ∨ (1 ≤ s.txCursor.toNat ∧ s.txCursor.toNat ≤ s.txLen.toNat ∧ s.txLen.toNat ≤ 14)

/-- The cursor of a slot being sent is between 1 and the length of its response. -/
theorem State.cursorOk.bounds {s : State} (h : s.cursorOk) (hs : (s.slot s.txIdx).ack = .sending) :
    1 ≤ s.txCursor.toNat ∧ s.txCursor.toNat ≤ s.streamLen.toNat ∧ s.streamLen.toNat ≤ 14 := by
  unfold State.streamLen
  split
  · next hc =>
    have hlen := respLen_le s.cfg (s.slot s.txIdx).cmd
    have : s.txCursor.toNat = 1 := by rw [hc]; rfl
    rw [BitVec.toNat_ofNat]
    omega
  · next hc => exact (h hs).resolve_left hc

theorem State.txPump_cursorOk (s : State) (h : s.cursorOk) : s.txPump.cursorOk := by
  rcases s.txPump_cases with ⟨-, -, e⟩ | ⟨i, -, -, e⟩ | ⟨hsend, b, e⟩
  · rw [e]; exact h
  · rw [e]; exact fun _ => .inl rfl
  · rw [e]
    obtain ⟨h1, h2, h3⟩ := h.bounds hsend
    intro hsend'
    right
    simp only [State.txPut_slot, State.txPut_txIdx, State.txPut_txCursor, State.txPut_txLen, State.txStream_txIdx,
      State.txStream_txCursor, State.txStream_txLen, State.txStream_slot] at hsend' ⊢
    split at hsend'
    · rw [State.slot_setAck, if_pos rfl] at hsend'
      cases hsend'
    · next hne =>
      have : s.txCursor.toNat ≠ s.streamLen.toNat := fun e => hne (BitVec.eq_of_toNat_eq e)
      bv_omega

theorem State.setAck_toBeSend_cursorOk (s : State) (i : Fin 3) (h : s.cursorOk) : (s.setAck i .toBeSend).cursorOk := by
  intro hs
  rw [State.setAck_txIdx, State.slot_setAck] at hs
  split at hs
  · simp at hs
  · exact h hs

theorem State.arm_cursorOk (s : State) (i : Fin 3) (h : s.cursorOk) : (s.arm i).cursorOk := by
  have ha := s.setAck_toBeSend_cursorOk i h
  unfold State.arm
  dsimp only
  split
  · exact ha
  · exact State.txPump_cursorOk _ ha

end Sys2Proof.Machine

/-! What the request machine does to its registers (R125 to R140): a field state fills in the slot of the open frame and
moves the field registers on, or takes the error path after that; every slot but the one under `rx_idx` stands. -/

namespace Sys2Proof.Machine

/-! ### Filling in the slot of an open frame -/

/-- From `s` to `u` only the field registers changed, and in the slot under `rx_idx` neither `ack` nor `err`; the command id
there is the old one, 0 or a valid one (R21). -/
structure State.FillsSlot (s u : State) : Prop where
  link : u.link =
    { s.link with slots := u.slots, rxState := u.rxState, nibCnt := u.nibCnt, payCnt := u.payCnt }
  others : ∀ j, j ≠ s.rxIdx → u.slot j = s.slot j
  ack : (u.slot s.rxIdx).ack = (s.slot s.rxIdx).ack
  err : (u.slot s.rxIdx).err = (s.slot s.rxIdx).err
  cmd : (u.slot s.rxIdx).cmd = (s.slot s.rxIdx).cmd ∨ (u.slot s.rxIdx).cmd = 0 ∨
    invalidId s.cfg (u.slot s.rxIdx).cmd = false

namespace State.FillsSlot

variable {s u w : State}

theorem rxIdx_eq (h : s.FillsSlot u) : u.rxIdx = s.rxIdx := congrArg Link.rxIdx h.link
theorem delim_eq (h : s.FillsSlot u) : u.delim = s.delim := congrArg Link.delim h.link
theorem txIdx_eq (h : s.FillsSlot u) : u.txIdx = s.txIdx := congrArg Link.txIdx h.link
theorem txCursor_eq (h : s.FillsSlot u) : u.txCursor = s.txCursor := congrArg Link.txCursor h.link
theorem txLen_eq (h : s.FillsSlot u) : u.txLen = s.txLen := congrArg Link.txLen h.link
theorem txBusy_eq (h : s.FillsSlot u) : u.txBusy = s.txBusy := congrArg Link.txBusy h.link
theorem cfg_eq (h : s.FillsSlot u) : u.cfg = s.cfg := congrArg Link.cfg h.link

/-- No slot's `ack` changes. -/
theorem ack_eq (h : s.FillsSlot u) (j : Fin 3) : (u.slot j).ack = (s.slot j).ack := by
  by_cases hj : j = s.rxIdx
  · rw [hj]; exact h.ack
  · rw [h.others j hj]

/-- No slot's `err` changes. -/
theorem err_eq (h : s.FillsSlot u) (j : Fin 3) : (u.slot j).err = (s.slot j).err := by
  by_cases hj : j = s.rxIdx
  · rw [hj]; exact h.err
  · rw [h.others j hj]

theorem refl (s : State) : s.FillsSlot s := ⟨rfl, fun _ _ => rfl, rfl, rfl, .inl rfl⟩

theorem trans (h : s.FillsSlot u) (h' : u.FillsSlot w) : s.FillsSlot w where
  link := by rw [h'.link, h.link]
  others j hj := by rw [h'.others j (by rwa [h.rxIdx_eq]), h.others j hj]
  ack := by rw [h'.ack_eq, h.ack]
  err := by rw [h'.err_eq, h.err]
  cmd := by
    have h2 := h'.cmd
    rw [h.rxIdx_eq, h.cfg_eq] at h2
    rcases h2 with h2 | h2
    · rw [h2]; exact h.cmd
    · exact .inr h2

/-- Moving the field registers on. -/
theorem moveOn (h : s.FillsSlot u) (x : RxState) (nib : BitVec 2) (pay : BitVec 5) (acc : Byte) :
    s.FillsSlot { u with rxState := x, nibCnt := nib, payCnt := pay, acc := acc } :=
  ⟨by have := h.link; simp only [State.link, Link.mk.injEq] at this ⊢; simp only [this, and_self], h.others, h.ack, h.err, h.cmd⟩

/-- A write to the slot under `rx_idx` that keeps `ack` and `err`. -/
theorem modSlot (s : State) (f : Slot → Slot) (hack : (f (s.slot s.rxIdx)).ack = (s.slot s.rxIdx).ack)
    (herr : (f (s.slot s.rxIdx)).err = (s.slot s.rxIdx).err)
    (hcmd : (f (s.slot s.rxIdx)).cmd = (s.slot s.rxIdx).cmd ∨ (f (s.slot s.rxIdx)).cmd = 0 ∨
      invalidId s.cfg (f (s.slot s.rxIdx)).cmd = false) : s.FillsSlot (s.modSlot s.rxIdx f) where
  link := rfl
  others j hj := State.slot_modSlot_other s _ j f hj
  ack := by rw [State.slot_modSlot_same]; exact hack
  err := by rw [State.slot_modSlot_same]; exact herr
  cmd := by rw [State.slot_modSlot_same]; exact hcmd

end State.FillsSlot

/-- A field state's rule is done with a byte: the slot filled in, or the error path taken after that; the display stands. -/
def State.FieldEnds (s t : State) : Prop :=
  ∃ u, u.display = s.display ∧ s.FillsSlot u ∧ (t = u ∨ t = u.errorPath)

theorem State.FieldEnds.of_fills {s u : State} (hd : u.display = s.display) (h : s.FillsSlot u) : s.FieldEnds u :=
  ⟨u, hd, h, .inl rfl⟩

theorem State.FieldEnds.of_error {s u : State} (hd : u.display = s.display) (h : s.FillsSlot u) :
    s.FieldEnds u.errorPath :=
  ⟨u, hd, h, .inr rfl⟩

/-- What follows a filled slot. -/
theorem State.FieldEnds.after {s u t : State} (hd : u.display = s.display) (h : s.FillsSlot u) (ht : u.FieldEnds t) :
    s.FieldEnds t := by
  obtain ⟨w, hwd, hw, hend⟩ := ht
  exact ⟨w, hwd.trans hd, h.trans hw, hend⟩

/-! ### The field states' rules -/

theorem State.rxCrc_display (s : State) (b : Byte) : (s.rxCrc b).display = s.display := by
  rw [State.rxCrc_frame]; simp only [State.display]

theorem State.rxCrc_fills (s : State) (b : Byte) : s.FillsSlot (s.rxCrc b) := by
  unfold State.rxCrc
  split
  · exact .modSlot s _ rfl rfl (.inl rfl)
  · exact .refl s

/-- The two nibbles of a byte: the first is kept, the second completes the byte (R132). -/
theorem State.rxNibble_cases (s : State) (n : Nibble) :
    (s.nibCnt = 0 ∧ s.rxNibble n = ({ s with acc := n.zeroExtend 8 <<< 4, nibCnt := 1 }, none)) ∨
    (s.nibCnt ≠ 0 ∧ s.rxNibble n = ({ s with nibCnt := 0 }, some (s.acc ||| n.zeroExtend 8))) := by
  unfold State.rxNibble
  split
  · next h => exact .inl ⟨h, rfl⟩
  · next h => exact .inr ⟨h, rfl⟩

theorem State.rxNibble_fills (s : State) (n : Nibble) : s.FillsSlot (s.rxNibble n).1 := by
  rcases s.rxNibble_cases n with ⟨-, h⟩ | ⟨-, h⟩
  · rw [h]; exact (FillsSlot.refl s).moveOn _ _ _ _
  · rw [h]; exact (FillsSlot.refl s).moveOn _ _ _ _

theorem State.rxNibble_display (s : State) (n : Nibble) : (s.rxNibble n).1.display = s.display := by
  rcases s.rxNibble_cases n with ⟨-, h⟩ | ⟨-, h⟩
  · rw [h]; rfl
  · rw [h]; rfl

theorem State.toCrcField_fills (s : State) : s.FillsSlot s.toCrcField :=
  (FillsSlot.modSlot s _ rfl rfl (.inl rfl)).moveOn _ _ _ _

theorem State.rxFieldChoice_ends (s : State) : s.FieldEnds s.rxFieldChoice := by
  unfold State.rxFieldChoice
  split
  · exact .of_fills rfl s.toCrcField_fills
  · exact .of_fills rfl ((FillsSlot.refl s).moveOn _ _ _ _)

theorem State.rxVpn_ends (s : State) (n : Nibble) : s.FieldEnds (s.rxVpn n) := by
  unfold State.rxVpn
  rcases s.rxNibble_cases n with ⟨-, h⟩ | ⟨-, h⟩
  · rw [h]; exact .of_fills rfl ((FillsSlot.refl s).moveOn _ _ _ _)
  · rw [h]
    refine .after (u := { s with nibCnt := 0 }) rfl ((FillsSlot.refl s).moveOn _ _ _ _) ?_
    exact .of_fills rfl ((FillsSlot.modSlot _ _ rfl rfl (.inl rfl)).moveOn _ _ _ _)

theorem State.rxVcmd_ends (s : State) (n : Nibble) : s.FieldEnds (s.rxVcmd n) := by
  unfold State.rxVcmd
  rcases s.rxNibble_cases n with ⟨-, h⟩ | ⟨-, h⟩
  · rw [h]; exact .of_fills rfl ((FillsSlot.refl s).moveOn _ _ _ _)
  · rw [h]
    refine .after (u := { s with nibCnt := 0 }) rfl ((FillsSlot.refl s).moveOn _ _ _ _) ?_
    dsimp only
    split
    · exact .of_error rfl (.modSlot _ _ rfl rfl (.inr (.inl rfl)))
    · next hv =>
      refine .after ?_ ?_ (State.rxFieldChoice_ends _)
      · rfl
      · exact .modSlot _ _ rfl rfl (.inr (.inr (by simpa using hv)))

/-- A completed payload byte stored at `pay_cnt` (R138). -/
def State.storePayloadByte (s : State) (v : Byte) : State :=
  { s.modSlot s.rxIdx fun sl => { sl with payload := sl.payload.setIfInBounds s.payCnt.toNat v } with
    payCnt := s.payCnt + 1 }

theorem State.storePayloadByte_fills (s : State) (v : Byte) : s.FillsSlot (s.storePayloadByte v) :=
  (FillsSlot.modSlot s _ rfl rfl (.inl rfl)).moveOn _ _ _ _

/-- `VPAY` on a digit: half a byte; a byte stored before the last; the last one stored, then the CRC field or the error
path, as the validator says (R138). -/
theorem State.rxVpay_cases (s : State) (n : Nibble) :
    (s.nibCnt = 0 ∧ s.rxVpay n = { s with acc := n.zeroExtend 8 <<< 4, nibCnt := 1 }) ∨
    (∃ v, (({ s with nibCnt := 0 } : State).storePayloadByte v).payCnt.toNat ≠
        reqLen s.cfg (({ s with nibCnt := 0 } : State).storePayloadByte v).rxSlot.cmd ∧
      s.rxVpay n = ({ s with nibCnt := 0 } : State).storePayloadByte v) ∨
    (∃ v, s.rxVpay n = (({ s with nibCnt := 0 } : State).storePayloadByte v).toCrcField) ∨
    (∃ v, s.rxVpay n = (({ s with nibCnt := 0 } : State).storePayloadByte v).errorPath) := by
  unfold State.rxVpay
  rcases s.rxNibble_cases n with ⟨hn, h⟩ | ⟨-, h⟩
  · exact .inl ⟨hn, by rw [h]⟩
  · right
    rw [h]
    dsimp only
    split
    · split
      · exact .inr (.inl ⟨_, rfl⟩)
      · exact .inr (.inr ⟨_, rfl⟩)
    · next hlen => exact .inl ⟨_, hlen, rfl⟩

theorem State.rxVpay_ends (s : State) (n : Nibble) : s.FieldEnds (s.rxVpay n) := by
  have hfill (v : Byte) : s.FillsSlot (({ s with nibCnt := 0 } : State).storePayloadByte v) :=
    ((FillsSlot.refl s).moveOn _ 0 _ _).trans (State.storePayloadByte_fills _ v)
  rcases s.rxVpay_cases n with ⟨-, h⟩ | ⟨v, -, h⟩ | ⟨v, h⟩ | ⟨v, h⟩
  · rw [h]; exact .of_fills rfl ((FillsSlot.refl s).moveOn _ _ _ _)
  · rw [h]; exact .of_fills rfl (hfill v)
  · rw [h]; exact .of_fills rfl ((hfill v).trans (State.toCrcField_fills _))
  · rw [h]; exact .of_error rfl (hfill v)

/-- A digit shifted into the received CRC (R140). -/
def State.shiftCrcDigit (s : State) (n : Nibble) : State :=
  { s.modSlot s.rxIdx fun sl => { sl with crcRx := (sl.crcRx <<< 4) ||| n.zeroExtend 16 } with nibCnt := s.nibCnt + 1 }

theorem State.shiftCrcDigit_fills (s : State) (n : Nibble) : s.FillsSlot (s.shiftCrcDigit n) :=
  (FillsSlot.modSlot s _ rfl rfl (.inl rfl)).moveOn _ _ _ _

/-- `VCRC` on a digit: shifted in, and after the fourth the frame is awaited to end or is in error (R140). -/
theorem State.rxVcrc_cases (s : State) (n : Nibble) :
    s.rxVcrc n = s.shiftCrcDigit n ∨ s.rxVcrc n = { s.shiftCrcDigit n with rxState := .vf } ∨
    s.rxVcrc n = (s.shiftCrcDigit n).errorPath := by
  unfold State.rxVcrc
  dsimp only
  split
  · split
    · exact .inr (.inl rfl)
    · exact .inr (.inr rfl)
  · exact .inl rfl

theorem State.rxVcrc_ends (s : State) (n : Nibble) : s.FieldEnds (s.rxVcrc n) := by
  rcases s.rxVcrc_cases n with h | h | h
  · rw [h]; exact .of_fills rfl (s.shiftCrcDigit_fills n)
  · rw [h]; exact .of_fills rfl ((s.shiftCrcDigit_fills n).moveOn _ _ _ _)
  · rw [h]; exact .of_error rfl (s.shiftCrcDigit_fills n)

theorem fieldRule_ends (st : RxState) (s : State) (n : Nibble) : s.FieldEnds (fieldRule st s n) := by
  cases st with
  | vf => exact .of_fills rfl (.refl s)
  | vpn => exact s.rxVpn_ends n
  | vcmd => exact s.rxVcmd_ends n
  | vpay => exact s.rxVpay_ends n
  | vcrc => exact s.rxVcrc_ends n

/-! ### A received byte -/

/-- What one received byte can do to the ring: an `STX` or an expected `ETX`, noise, or the rule of a field state. -/
theorem State.rxByte_outcomes (s : State) (b : Byte) :
    (s.rxState = .vf ∧ b = STX ∧ s.delim = false ∧ s.rxByte b = s.rxStx) ∨
    (s.rxState = .vf ∧ s.delim = true ∧ s.rxByte b = s.rxEtx) ∨
    (s.rxState = .vf ∧ s.rxByte b = s.rxNoise) ∨
    (s.rxState ≠ .vf ∧ s.FieldEnds (s.rxByte b)) := by
  rcases s.rxByte_cases b with ⟨hvf, hb, hd, h⟩ | ⟨hvf, -, hd, h⟩ | ⟨hvf, -, -, h⟩ | ⟨hf, -, h⟩ | ⟨hf, -, -, -, h⟩ |
    ⟨n, hf, -, -, -, h⟩
  · exact .inl ⟨hvf, hb, hd, h⟩
  · exact .inr (.inl ⟨hvf, hd, h⟩)
  · exact .inr (.inr (.inl ⟨hvf, h⟩))
  · exact .inr (.inr (.inr ⟨hf, h ▸ .of_error rfl (.refl s)⟩))
  · exact .inr (.inr (.inr ⟨hf, h ▸ .of_error (s.rxCrc_display b) (s.rxCrc_fills b)⟩))
  · exact .inr (.inr (.inr ⟨hf, h ▸ .after (s.rxCrc_display b) (s.rxCrc_fills b) (fieldRule_ends _ _ n)⟩))

/-- The answer of the dispatcher goes to `resp` of the slot current for RX (R129). -/
theorem State.rxDispatch_fills (s : State) : s.FillsSlot s.rxDispatch := by
  have hlink := s.dispatch_link s.rxSlot.cmd s.rxPayload
  have hrx : (s.dispatch s.rxSlot.cmd s.rxPayload).1.rxIdx = s.rxIdx := congrArg Link.rxIdx hlink
  have hd : s.FillsSlot (s.dispatch s.rxSlot.cmd s.rxPayload).1 := by
    obtain ⟨hslots, -, -⟩ := State.link_eq_iff.mp hlink
    refine ⟨?_, fun j _ => State.slot_congr s _ hslots j, ?_, ?_, .inl ?_⟩
    · rw [hlink]; exact hlink.symm ▸ rfl
    all_goals rw [State.slot_congr s _ hslots]
  refine hd.trans ?_
  unfold State.rxDispatch
  rw [← hrx]
  exact .modSlot _ _ rfl rfl (.inl rfl)

/-- An expected `ETX` arms the slot current for RX, filled in where the dispatcher was called (R129). -/
theorem State.rxEtx_eq (s : State) : ∃ u, s.FillsSlot u ∧ s.rxEtx = { u.arm s.rxIdx with delim := false } ∧
    (u = s ∨ u = s.rxDispatch) := by
  unfold State.rxEtx
  dsimp only
  split
  · exact ⟨s, .refl s, rfl, .inl rfl⟩
  · exact ⟨_, s.rxDispatch_fills, rfl, .inr rfl⟩

end Sys2Proof.Machine

/-! Which of the shared operations an event of R11 is, and the three statements about every event or every received byte
that follow from it: O10, O11 and O15. -/

namespace Sys2Proof.Machine

/-! ### The events -/

/-- An event is a sequence of received bytes, `TX_DONE`, `RESET`, or an operation that leaves the link's registers alone. -/
theorem exec_event_cases {i : Instr} {s t : State} (hi : i.isEvent = true) (h : exec i s = .next t) :
    (∃ bs, t = s.rxBytes bs) ∨ t = s.txDone ∨ t = s.doReset ∨ t.link = s.link := by
  cases i with
  | rdkeys | wrline | setbl | clrdsp | setlang | getver | buzparam | buzctrl =>
    exact .inl ⟨_, (Host.Outcome.next.inj h).symm⟩
  | stx | etx | nul | digit0 | digit1 | digit2 | digit3 | digit4 | digit5 | digit6 | digit7 | digit8 | digit9 | digitA
  | digitB | digitC | digitD | digitE | digitF | rxByte =>
    exact .inl ⟨[_], (Host.Outcome.next.inj h).symm⟩
  | txDone => exact .inr (.inl (Host.Outcome.next.inj h).symm)
  | reset => exact .inr (.inr (.inl (Host.Outcome.next.inj h).symm))
  | tick =>
    obtain rfl := Host.Outcome.next.inj h
    exact .inr (.inr (.inr s.blinkTick_link))
  | drainStep =>
    obtain rfl := Host.Outcome.next.inj h
    exact .inr (.inr (.inr s.drainStep_link))
  | putLine text line =>
    obtain rfl := Host.Outcome.next.inj h
    exact .inr (.inr (.inr (s.putLine_link text line)))
  | putQr version offset contrast =>
    obtain rfl := Host.Outcome.next.inj h
    exact .inr (.inr (.inr (s.putQr_link version offset contrast)))
  | fbClear =>
    obtain rfl := Host.Outcome.next.inj h
    exact .inr (.inr (.inr s.fbClear_link))
  | renderLine line content isInternal =>
    change execRenderLine line content isInternal s = .next t at h
    unfold execRenderLine at h
    split at h
    · obtain rfl := Host.Outcome.next.inj h
      exact .inr (.inr (.inr (s.renderLine_link _ content isInternal)))
    · cases h
  | _ => cases hi

/-- What every received byte keeps, a sequence of bytes keeps. -/
theorem State.rxBytes_keeps {P : State → Prop} (hbyte : ∀ s b, P s → P (s.rxByte b)) (bs : List Byte) {s : State}
    (hs : P s) : P (s.rxBytes bs) := by
  induction bs generalizing s with
  | nil => exact hs
  | cons b bs ih => exact ih (hbyte s b hs)

/-- A property of the link's registers that a byte, `TX_DONE` and `RESET` keep is kept by every event. -/
theorem exec_event_keeps {P : State → Prop} (hlink : ∀ s t : State, t.link = s.link → P s → P t)
    (hbyte : ∀ s b, P s → P (s.rxByte b)) (hdone : ∀ s, P s → P s.txDone) (hreset : ∀ s : State, P s.doReset)
    {i : Instr} {s t : State} (hi : i.isEvent = true) (hs : P s) (h : exec i s = .next t) : P t := by
  rcases exec_event_cases hi h with ⟨bs, rfl⟩ | rfl | rfl | hl
  · exact State.rxBytes_keeps hbyte bs hs
  · exact hdone s hs
  · exact hreset s
  · exact hlink s t hl hs

/-! ### The registers of an armed and of a reset state -/

theorem State.arm_rxState (s : State) (i : Fin 3) : (s.arm i).rxState = s.rxState := by rw [State.arm_frame]
theorem State.txDone_rxState (s : State) : s.txDone.rxState = s.rxState := by rw [State.txDone_frame]
theorem State.txDone_delim (s : State) : s.txDone.delim = s.delim := by rw [State.txDone_frame]
theorem State.txDone_rxIdx (s : State) : s.txDone.rxIdx = s.rxIdx := by rw [State.txDone_frame]
theorem State.txDone_nibCnt (s : State) : s.txDone.nibCnt = s.nibCnt := by rw [State.txDone_frame]
theorem State.txDone_payCnt (s : State) : s.txDone.payCnt = s.payCnt := by rw [State.txDone_frame]
theorem State.txDone_cfg (s : State) : s.txDone.cfg = s.cfg := by rw [State.txDone_frame]

theorem State.rxDispatch_rxState (s : State) : s.rxDispatch.rxState = s.rxState :=
  congrArg Link.rxState (s.dispatch_link s.rxSlot.cmd s.rxPayload)

theorem State.rxEtx_rxState (s : State) : s.rxEtx.rxState = s.rxState := by
  obtain ⟨u, -, h, rfl | rfl⟩ := s.rxEtx_eq
  · rw [h]; exact State.arm_rxState _ _
  · rw [h]; exact (State.arm_rxState _ _).trans s.rxDispatch_rxState

theorem State.doReset_slot (s : State) (i : Fin 3) : s.doReset.slot i = Slot.cleared s.cfg.crcInit :=
  Vector.getElem_replicate i.isLt

/-- An `STX` is dropped, or its target slot is cleared and a frame opened there (R127). -/
theorem State.rxStx_cases (s : State) :
    ((s.slot s.rxTarget).ack.outstanding = true ∧ s.rxStx = { s with delim := false }) ∨
    ((s.slot s.rxTarget).ack.outstanding = false ∧ s.rxStx =
      { s.clearSlot s.rxTarget with rxIdx := s.rxTarget, delim := true, rxState := .vpn, nibCnt := 0, acc := 0 }) := by
  unfold State.rxStx
  split
  · next h => exact .inl ⟨h, rfl⟩
  · next h => exact .inr ⟨Bool.eq_false_iff.mpr h, rfl⟩

/-! ### O10: the request machine's invariant -/

/-- With no frame open the invariant holds. -/
theorem State.rxInv_of_closed {s : State} (hvf : s.rxState = .vf) (hd : s.delim = false) : s.rxInv :=
  ⟨fun h => absurd hvf h, fun h => absurd h (by simp [hd])⟩

theorem State.rxStx_rxInv (s : State) (hvf : s.rxState = .vf) : s.rxStx.rxInv := by
  rcases s.rxStx_cases with ⟨-, h⟩ | ⟨-, h⟩
  · rw [h]; exact State.rxInv_of_closed hvf rfl
  · rw [h]
    have hcleared := s.slot_clearSlot s.rxTarget s.rxTarget
    rw [if_pos rfl] at hcleared
    exact ⟨fun _ => rfl, fun _ => ⟨congrArg Slot.ack hcleared, congrArg Slot.err hcleared⟩⟩

theorem State.FieldEnds.rxInv {s t : State} (h : s.FieldEnds t) (hf : s.rxState ≠ .vf) (hs : s.rxInv) : t.rxInv := by
  obtain ⟨u, -, hu, rfl | rfl⟩ := h
  · have hd := hs.1 hf
    obtain ⟨hack, herr⟩ := hs.2 hd
    refine ⟨fun _ => hu.delim_eq.trans hd, fun _ => ?_⟩
    unfold State.rxSlot
    rw [hu.rxIdx_eq, hu.ack, hu.err]
    exact ⟨hack, herr⟩
  · exact State.rxInv_of_closed rfl rfl

theorem State.rxByte_rxInv (s : State) (b : Byte) (hs : s.rxInv) : (s.rxByte b).rxInv := by
  rcases s.rxByte_outcomes b with ⟨hvf, -, -, h⟩ | ⟨hvf, -, h⟩ | ⟨hvf, h⟩ | ⟨hf, h⟩
  · rw [h]; exact s.rxStx_rxInv hvf
  · rw [h]
    have hd : s.rxEtx.delim = false := rfl
    exact State.rxInv_of_closed (s.rxEtx_rxState.trans hvf) hd
  · rw [h]; exact State.rxInv_of_closed hvf rfl
  · exact h.rxInv hf hs

theorem State.txDone_rxInv (s : State) (hs : s.rxInv) : s.txDone.rxInv := by
  have hadv := s.txDone_advances s.rxIdx
  unfold State.rxInv State.rxSlot
  rw [s.txDone_rxState, s.txDone_delim, s.txDone_rxIdx, hadv.notReady_iff, hadv.err_eq]
  exact hs

/-- Settles O10: rendering and draining leave the link alone, `TX_DONE` never touches a `NOT_READY` slot, and a byte opens
a frame in a cleared slot, fills it in or closes it. -/
theorem eventsKeepTheRequestInvariant : Obligations.EventsKeepTheRequestInvariant :=
  fun _ _ _ hi hs h =>
    exec_event_keeps (P := State.rxInv) (fun _ _ => State.rxInv_of_link) State.rxByte_rxInv State.txDone_rxInv
      (fun _ => State.rxInv_of_closed rfl rfl) hi hs h

/-! ### O15: receiving and the outstanding slots -/

theorem Ack.ne_notReady_of_outstanding {a : Ack} (h : a.outstanding = true) : a ≠ .notReady := by
  rintro rfl
  cases h

/-- A byte lets every outstanding slot go on by at most one step: it clears none of them and writes none. -/
theorem State.rxByte_advances (s : State) (b : Byte) (hs : s.rxInv) {j : Fin 3}
    (hj : (s.slot j).ack.outstanding = true) : (s.slot j).Advances ((s.rxByte b).slot j) := by
  have hne (hd : s.delim = true) : j ≠ s.rxIdx := fun e =>
    Ack.ne_notReady_of_outstanding hj (e ▸ (hs.2 hd).1)
  rcases s.rxByte_outcomes b with ⟨-, -, -, h⟩ | ⟨-, hd, h⟩ | ⟨-, h⟩ | ⟨hf, u, -, hu, hend⟩
  · rw [h]
    rcases s.rxStx_cases with ⟨-, h⟩ | ⟨hfree, h⟩
    · rw [h]; exact .refl _
    · rw [h]
      have hjt : j ≠ s.rxTarget := by
        rintro rfl
        simp [hfree] at hj
      have hslot := s.slot_clearSlot s.rxTarget j
      rw [if_neg hjt] at hslot
      exact .inl hslot
  · obtain ⟨u, hu, he, -⟩ := s.rxEtx_eq
    rw [h, he, ← hu.others j (hne hd)]
    exact u.arm_advances_other (hne hd)
  · rw [h]; exact .refl _
  · have hjr := hne (hs.1 hf)
    rw [← hu.others j hjr]
    rcases hend with he | he
    · rw [he]; exact .refl _
    · rw [he]; exact u.errorPath_advances_other (by rwa [hu.rxIdx_eq])

/-- Settles O15, from the progress a byte lets an outstanding slot make. -/
theorem receivingNeverClearsAnOutstandingSlot : Obligations.ReceivingNeverClearsAnOutstandingSlot := by
  intro s t b j hs hj h
  obtain rfl : s.rxByte b = t := Host.Outcome.next.inj h
  have hadv := s.rxByte_advances b hs hj
  exact ⟨hadv.eq_withAck, fun hn => Ack.ne_notReady_of_outstanding hj (hadv.notReady_iff.mp hn), hadv.ne_toBeSend⟩

/-! ### O11: the counters -/

/-- The first two clauses of `State.counterInv`: the nibble and the payload counter of an open field (R33, R34). -/
def State.fieldOk (s : State) : Prop :=
  (s.rxState = .vpn ∨ s.rxState = .vcmd ∨ s.rxState = .vpay → s.nibCnt.toNat < 2) ∧
  (s.rxState = .vpay → s.payCnt.toNat < reqLen s.cfg s.rxSlot.cmd)

theorem State.counterInv_iff (s : State) : s.counterInv ↔ s.fieldOk ∧ s.cursorOk := by
  simp only [State.counterInv, State.fieldOk, State.cursorOk, and_assoc]

/-- Where no bytes are accumulated the counters of a field are free. -/
theorem State.fieldOk_of_uncounted {s : State} (h : s.rxState = .vf ∨ s.rxState = .vcrc) : s.fieldOk := by
  rcases h with h | h
  · simp [State.fieldOk, h]
  · simp [State.fieldOk, h]

theorem nibble_lt_two {x : BitVec 2} (h : x = 0 ∨ x = 1) : x.toNat < 2 := by
  rcases h with rfl | rfl
  · decide
  · decide

theorem State.fieldOk_of_nib {s : State} (hpay : s.rxState ≠ .vpay) (hn : s.nibCnt = 0 ∨ s.nibCnt = 1) : s.fieldOk :=
  ⟨fun _ => nibble_lt_two hn, fun h => absurd h hpay⟩

theorem State.rxCrc_fieldOk (s : State) (b : Byte) (hs : s.fieldOk) : (s.rxCrc b).fieldOk := by
  have hcmd : (s.rxCrc b).rxSlot.cmd = s.rxSlot.cmd := by
    unfold State.rxCrc
    split
    · exact (congrArg Slot.cmd (s.slot_modSlot_same s.rxIdx _)).trans rfl
    · rfl
  unfold State.fieldOk
  rw [hcmd, State.rxCrc_frame]
  exact hs

theorem State.rxVpn_fieldOk (s : State) (n : Nibble) (hst : s.rxState = .vpn) : (s.rxVpn n).fieldOk := by
  unfold State.rxVpn
  rcases s.rxNibble_cases n with ⟨-, h⟩ | ⟨-, h⟩
  · rw [h]; exact State.fieldOk_of_nib (by simp [hst]) (.inr rfl)
  · rw [h]; exact State.fieldOk_of_nib (by simp) (.inl rfl)

theorem State.rxFieldChoice_fieldOk (s : State) : s.rxFieldChoice.fieldOk := by
  unfold State.rxFieldChoice
  split
  · exact State.fieldOk_of_uncounted (.inr rfl)
  · next h => exact ⟨fun _ => nibble_lt_two (.inl rfl), fun _ => Nat.pos_of_ne_zero h⟩

theorem State.rxVcmd_fieldOk (s : State) (n : Nibble) (hst : s.rxState = .vcmd) : (s.rxVcmd n).fieldOk := by
  unfold State.rxVcmd
  rcases s.rxNibble_cases n with ⟨-, h⟩ | ⟨-, h⟩
  · rw [h]; exact State.fieldOk_of_nib (by simp [hst]) (.inr rfl)
  · rw [h]
    dsimp only
    split
    · exact State.fieldOk_of_uncounted (.inl rfl)
    · exact State.rxFieldChoice_fieldOk _

theorem State.storePayloadByte_rxSlot (s : State) (v : Byte) : (s.storePayloadByte v).rxSlot =
    { s.rxSlot with payload := s.rxSlot.payload.setIfInBounds s.payCnt.toNat v } :=
  s.slot_modSlot_same s.rxIdx fun sl => { sl with payload := sl.payload.setIfInBounds s.payCnt.toNat v }

theorem State.storePayloadByte_cmd (s : State) (v : Byte) : (s.storePayloadByte v).rxSlot.cmd = s.rxSlot.cmd := by
  rw [State.storePayloadByte_rxSlot]

theorem State.rxVpay_fieldOk (s : State) (n : Nibble) (hst : s.rxState = .vpay) (hs : s.fieldOk) :
    (s.rxVpay n).fieldOk := by
  have hpay := hs.2 hst
  rcases s.rxVpay_cases n with ⟨-, h⟩ | ⟨v, hlen, h⟩ | ⟨v, h⟩ | ⟨v, h⟩
  · rw [h]; exact ⟨fun _ => nibble_lt_two (.inr rfl), fun _ => hpay⟩
  · rw [h]
    rw [State.storePayloadByte_cmd] at hlen
    refine ⟨fun _ => nibble_lt_two (.inl rfl), fun _ => ?_⟩
    rw [State.storePayloadByte_cmd]
    have hcap := reqLen_le s.cfg s.rxSlot.cmd
    change (s.payCnt + 1).toNat ≠ reqLen s.cfg s.rxSlot.cmd at hlen
    change (s.payCnt + 1).toNat < reqLen s.cfg s.rxSlot.cmd
    bv_omega
  · rw [h]; exact State.fieldOk_of_uncounted (.inr rfl)
  · rw [h]; exact State.fieldOk_of_uncounted (.inl rfl)

theorem State.rxVcrc_fieldOk (s : State) (n : Nibble) (hst : s.rxState = .vcrc) : (s.rxVcrc n).fieldOk := by
  rcases s.rxVcrc_cases n with h | h | h
  · rw [h]; exact State.fieldOk_of_uncounted (.inr hst)
  · rw [h]; exact State.fieldOk_of_uncounted (.inl rfl)
  · rw [h]; exact State.fieldOk_of_uncounted (.inl rfl)

theorem fieldRule_fieldOk (s : State) (n : Nibble) (hs : s.fieldOk) : (fieldRule s.rxState s n).fieldOk := by
  cases hst : s.rxState with
  | vf => exact hs
  | vpn => exact s.rxVpn_fieldOk n hst
  | vcmd => exact s.rxVcmd_fieldOk n hst
  | vpay => exact s.rxVpay_fieldOk n hst hs
  | vcrc => exact s.rxVcrc_fieldOk n hst

theorem State.rxStx_fieldOk (s : State) (hvf : s.rxState = .vf) : s.rxStx.fieldOk := by
  rcases s.rxStx_cases with ⟨-, h⟩ | ⟨-, h⟩
  · rw [h]; exact State.fieldOk_of_uncounted (.inl hvf)
  · rw [h]; exact State.fieldOk_of_nib (by simp) (.inl rfl)

theorem State.rxByte_fieldOk (s : State) (b : Byte) (hs : s.fieldOk) : (s.rxByte b).fieldOk := by
  rcases s.rxByte_cases b with ⟨hvf, -, -, h⟩ | ⟨hvf, -, -, h⟩ | ⟨hvf, -, -, h⟩ | ⟨-, -, h⟩ | ⟨-, -, -, -, h⟩ |
    ⟨n, -, -, -, -, h⟩
  · rw [h]; exact s.rxStx_fieldOk hvf
  · rw [h]; exact State.fieldOk_of_uncounted (.inl (s.rxEtx_rxState.trans hvf))
  · rw [h]; exact State.fieldOk_of_uncounted (.inl hvf)
  · rw [h]; exact State.fieldOk_of_uncounted (.inl rfl)
  · rw [h]; exact State.fieldOk_of_uncounted (.inl rfl)
  · have hst : (s.rxCrc b).rxState = s.rxState := by rw [State.rxCrc_frame]
    rw [h, ← hst]
    exact fieldRule_fieldOk _ n (s.rxCrc_fieldOk b hs)

/-- Filling in the slot of a frame leaves the response machine's registers alone. -/
theorem State.FillsSlot.cursorOk {s u : State} (h : s.FillsSlot u) (hs : s.cursorOk) : u.cursorOk := by
  unfold State.cursorOk
  rw [h.ack_eq, h.txIdx_eq, h.txCursor_eq, h.txLen_eq]
  exact hs

theorem State.errorPath_cursorOk (s : State) (hs : s.cursorOk) : s.errorPath.cursorOk := by
  have herr : (s.setErr s.rxIdx).cursorOk := by
    have hack : ((s.setErr s.rxIdx).slot s.txIdx).ack = (s.slot s.txIdx).ack := by
      rw [State.slot_setErr]; split <;> rfl
    intro h
    exact hs (hack ▸ h)
  exact State.arm_cursorOk _ s.rxIdx herr

theorem State.rxStx_cursorOk (s : State) (hs : s.cursorOk) : s.rxStx.cursorOk := by
  rcases s.rxStx_cases with ⟨-, h⟩ | ⟨-, h⟩
  · rw [h]; exact hs
  · rw [h]
    have hslot := s.slot_clearSlot s.rxTarget s.txIdx
    split at hslot
    · intro hsend
      have : Ack.notReady = .sending := (congrArg Slot.ack hslot).symm.trans hsend
      cases this
    · intro hsend
      exact hs ((congrArg Slot.ack hslot).symm.trans hsend)

theorem State.rxByte_cursorOk (s : State) (b : Byte) (hs : s.cursorOk) : (s.rxByte b).cursorOk := by
  rcases s.rxByte_outcomes b with ⟨-, -, -, h⟩ | ⟨-, -, h⟩ | ⟨-, h⟩ | ⟨-, u, -, hu, hend⟩
  · rw [h]; exact s.rxStx_cursorOk hs
  · obtain ⟨u, hu, he, -⟩ := s.rxEtx_eq
    rw [h, he]
    exact u.arm_cursorOk s.rxIdx (hu.cursorOk hs)
  · rw [h]; exact hs
  · rcases hend with he | he
    · rw [he]; exact hu.cursorOk hs
    · rw [he]; exact u.errorPath_cursorOk (hu.cursorOk hs)

theorem State.txDone_fieldOk (s : State) (hs : s.fieldOk) : s.txDone.fieldOk := by
  unfold State.fieldOk State.rxSlot
  rw [s.txDone_rxState, s.txDone_nibCnt, s.txDone_payCnt, s.txDone_rxIdx, s.txDone_cfg,
    (s.txDone_advances s.rxIdx).cmd_eq]
  exact hs

theorem State.rxByte_counterInv (s : State) (b : Byte) (hs : s.counterInv) : (s.rxByte b).counterInv := by
  obtain ⟨hfield, hcursor⟩ := s.counterInv_iff.mp hs
  exact (State.counterInv_iff _).mpr ⟨s.rxByte_fieldOk b hfield, s.rxByte_cursorOk b hcursor⟩

theorem State.txDone_counterInv (s : State) (hs : s.counterInv) : s.txDone.counterInv := by
  obtain ⟨hfield, hcursor⟩ := s.counterInv_iff.mp hs
  exact (State.counterInv_iff _).mpr ⟨s.txDone_fieldOk hfield, (s.setBusy false).txPump_cursorOk hcursor⟩

theorem State.doReset_counterInv (s : State) : s.doReset.counterInv := by
  refine (State.counterInv_iff _).mpr ⟨State.fieldOk_of_uncounted (.inl rfl), fun h => ?_⟩
  rw [State.doReset_slot] at h
  cases h

/-- Settles O11: the field rules for the counters of reception, a pump and an arming for the cursor. -/
theorem eventsKeepTheCountersInRange : Obligations.EventsKeepTheCountersInRange :=
  fun _ _ _ hi hs h =>
    exec_event_keeps (P := State.counterInv) (fun _ _ => State.counterInv_of_link) State.rxByte_counterInv
      State.txDone_counterInv State.doReset_counterInv hi hs h

end Sys2Proof.Machine

/-! The ring under the host discipline H1 (R40), seen from the slot under `tx_idx`: `ackAhead k` is the `ack` of the slot `k`
places further, and the slot current for RX is `rx_idx - tx_idx` places further. From it O12 and O14. -/

namespace Sys2Proof.Machine

/-! ### The ring from the slot under `tx_idx` -/

/-- The `ack` of the slot `k` places after the one under `tx_idx`. -/
def State.ackAhead (s : State) (k : Fin 3) : Ack := (s.slot (s.txIdx + k)).ack

/-- How many places `rx_idx` is ahead of `tx_idx`. -/
def State.rxAhead (s : State) : Fin 3 := s.rxIdx - s.txIdx

/-- The shape of the ring with a frame open or not, whatever `delim` is. -/
def State.ringAt (s : State) (isOpen : Bool) : Prop :=
  ringShape (s.ackAhead 0) (s.ackAhead 1) (s.ackAhead 2) s.rxAhead isOpen s.txBusy = true

theorem State.add_rxAhead (s : State) : s.txIdx + s.rxAhead = s.rxIdx := add_sub_cancel s.txIdx s.rxIdx

theorem State.ackAhead_zero (s : State) : s.ackAhead 0 = (s.slot s.txIdx).ack := by
  rw [State.ackAhead, add_zero]

theorem State.ackAhead_one (s : State) : s.ackAhead 1 = (s.slot (ringNext s.txIdx)).ack := rfl

theorem State.ackAhead_rxAhead (s : State) : s.ackAhead s.rxAhead = s.rxSlot.ack := by
  rw [State.ackAhead, s.add_rxAhead, State.rxSlot]

/-- Every slot is some places ahead. -/
theorem State.slot_ack_eq (s : State) (i : Fin 3) : (s.slot i).ack = s.ackAhead (i - s.txIdx) := by
  rw [State.ackAhead, add_sub_cancel]

theorem State.ringInv_iff (s : State) : s.ringInv ↔ s.ringAt s.delim := by
  have htwo : ringNext (ringNext s.txIdx) = s.txIdx + 2 := add_assoc s.txIdx 1 1
  rw [State.ringInv, State.ringAt, State.ackAhead_zero, State.ackAhead_one, State.ackAhead, htwo, State.rxAhead]

/-- Where `rx_idx` may stand: on the slot under `tx_idx`; one place ahead; or two, behind a slot still queued. -/
def ringPlace (a0 a1 a2 : Ack) (ahead : Fin 3) (isOpen : Bool) : Prop :=
  (ahead = 0 ∧ isOpen = false ∧ a1 ≠ .toBeSend ∧ a2 ≠ .toBeSend ∧ (a1 = .sent → a2 = .sent)) ∨
  (ahead = 1 ∧ (isOpen = true → a1 = .notReady) ∧ a1 ≠ .sent ∧ a2 ≠ .toBeSend) ∨
  (ahead = 2 ∧ (isOpen = true → a2 = .notReady) ∧ a0 = .sent ∧ a1 = .toBeSend ∧ a2 ≠ .sent)

/-- Behind a slot being sent, whatever that slot comes to is no matter to where `rx_idx` stands. -/
theorem ringPlace_of_sending {a1 a2 : Ack} {ahead : Fin 3} {isOpen : Bool} (a0 : Ack)
    (h : ringPlace .sending a1 a2 ahead isOpen) : ringPlace a0 a1 a2 ahead isOpen := by
  rcases h with h | h | ⟨-, -, h, -⟩
  · exact .inl h
  · exact .inr (.inl h)
  · cases h

/-- The same place seen from the next slot, when that one is started behind a `SENT` one. -/
theorem ringPlace_rotate {a2 : Ack} {ahead : Fin 3} {isOpen : Bool} (h : ringPlace .sent .toBeSend a2 ahead isOpen) :
    ringPlace .sending a2 .sent (ahead - 1) isOpen := by
  rcases h with ⟨-, -, h, -⟩ | ⟨rfl, hopen, -, h2⟩ | ⟨rfl, hopen, -, -, h2⟩
  · exact absurd rfl h
  · refine .inl ⟨rfl, ?_, h2, nofun, fun _ => rfl⟩
    cases isOpen with
    | false => rfl
    | true => cases hopen rfl
  · exact .inr (.inl ⟨rfl, hopen, h2, nofun⟩)

/-- The shapes in words: nothing received since reset; or the slot under `tx_idx` is being sent or sent, no other is being
sent, a byte is in flight where something is left to send, and `rx_idx` stands where it may. -/
theorem ringShape_iff (a0 a1 a2 : Ack) (ahead : Fin 3) (isOpen busy : Bool) :
    ringShape a0 a1 a2 ahead isOpen busy = true ↔
      (a0 = .notReady ∧ a1 = .notReady ∧ a2 = .notReady ∧ ahead = 0 ∧ busy = false) ∨
      ((a0 = .sending ∨ a0 = .sent) ∧ a1 ≠ .sending ∧ a2 ≠ .sending ∧
        (a0 = .sending ∨ a1 = .toBeSend ∨ a2 = .toBeSend → busy = true) ∧ ringPlace a0 a1 a2 ahead isOpen) := by
  unfold ringPlace
  cases a0 with
  | notReady => simp [ringShape, and_assoc]
  | toBeSend => simp [ringShape]
  | sending => fin_cases ahead <;> simp [ringShape] <;> grind
  | sent => fin_cases ahead <;> simp [ringShape] <;> grind

/-- A ring in which a response is being sent or was sent. -/
structure State.ringStarted (s : State) (isOpen : Bool) : Prop where
  first : s.ackAhead 0 = .sending ∨ s.ackAhead 0 = .sent
  second : s.ackAhead 1 ≠ .sending
  third : s.ackAhead 2 ≠ .sending
  place : ringPlace (s.ackAhead 0) (s.ackAhead 1) (s.ackAhead 2) s.rxAhead isOpen

/-- A byte is in flight where something is left to send. -/
def State.busyOk (s : State) : Prop :=
  s.ackAhead 0 = .sending ∨ s.ackAhead 1 = .toBeSend ∨ s.ackAhead 2 = .toBeSend → s.txBusy = true

/-- The ring as `RESET` leaves it: nothing received, nothing sent. -/
structure State.ringEmpty (s : State) : Prop where
  first : s.ackAhead 0 = .notReady
  second : s.ackAhead 1 = .notReady
  third : s.ackAhead 2 = .notReady
  ahead : s.rxAhead = 0
  busy : s.txBusy = false

theorem State.ringAt_iff (s : State) (isOpen : Bool) :
    s.ringAt isOpen ↔ s.ringEmpty ∨ s.ringStarted isOpen ∧ s.busyOk := by
  rw [State.ringAt, ringShape_iff]
  constructor
  · rintro (⟨h0, h1, h2, h, hb⟩ | ⟨h0, h1, h2, hb, h⟩)
    · exact .inl ⟨h0, h1, h2, h, hb⟩
    · exact .inr ⟨⟨h0, h1, h2, h⟩, hb⟩
  · rintro (⟨h0, h1, h2, h, hb⟩ | ⟨⟨h0, h1, h2, h⟩, hb⟩)
    · exact .inl ⟨h0, h1, h2, h, hb⟩
    · exact .inr ⟨h0, h1, h2, hb, h⟩

@[simp] theorem State.setBusy_ackAhead (s : State) (v : Bool) (k : Fin 3) : (s.setBusy v).ackAhead k = s.ackAhead k := rfl
@[simp] theorem State.txPut_ackAhead (s : State) (b : Byte) (k : Fin 3) : (s.txPut b).ackAhead k = s.ackAhead k := rfl
@[simp] theorem State.txPut_rxAhead (s : State) (b : Byte) : (s.txPut b).rxAhead = s.rxAhead := rfl

/-- The started ring reads the acks and the place of `rx_idx` only. -/
theorem State.ringStarted.of_view {s t : State} {isOpen : Bool} (hack : ∀ k, t.ackAhead k = s.ackAhead k)
    (hrx : t.rxAhead = s.rxAhead) (h : s.ringStarted isOpen) : t.ringStarted isOpen :=
  ⟨by rw [hack]; exact h.first, by rw [hack]; exact h.second, by rw [hack]; exact h.third,
    by rw [hack, hack, hack, hrx]; exact h.place⟩

/-! ### The response machine and the ring -/

theorem State.ackAhead_setAck (s : State) (k j : Fin 3) (a : Ack) :
    (s.setAck (s.txIdx + k) a).ackAhead j = if j = k then a else s.ackAhead j := by
  unfold State.ackAhead
  rw [State.slot_setAck, State.setAck_txIdx]
  simp only [add_right_inj]
  split <;> rfl

/-- Streaming leaves the acks alone but for the slot under `tx_idx`, which is being sent or sent afterwards. -/
theorem State.txStream_ackAhead (s : State) (hsend : s.ackAhead 0 = .sending) :
    (s.txStream.1.ackAhead 0 = .sending ∨ s.txStream.1.ackAhead 0 = .sent) ∧
    ∀ j, j ≠ 0 → s.txStream.1.ackAhead j = s.ackAhead j := by
  have hview (j : Fin 3) : s.txStream.1.ackAhead j =
      if s.txCursor = s.streamLen then (if j = 0 then .sent else s.ackAhead j) else s.ackAhead j := by
    have hset := s.ackAhead_setAck 0 j .sent
    rw [add_zero] at hset
    rw [← hset, State.ackAhead, State.txStream_txIdx, State.txStream_slot]
    split <;> rfl
  constructor
  · rw [hview 0]
    split
    · exact .inr rfl
    · exact .inl hsend
  · intro j hj
    rw [hview j, if_neg hj, ite_self]

/-- Starting a slot `k` places ahead rotates the view by `k`. -/
theorem State.started_ackAhead (s : State) (k j : Fin 3) :
    (s.started (s.txIdx + k)).ackAhead j = if j = 0 then .sending else s.ackAhead (k + j) := by
  have h := s.ackAhead_setAck k (k + j) .sending
  unfold State.ackAhead at h ⊢
  rw [State.setAck_txIdx] at h
  rw [State.started_slot, State.started_txIdx, add_assoc]
  simpa only [add_eq_left] using h

theorem State.started_rxAhead (s : State) (k : Fin 3) : (s.started (s.txIdx + k)).rxAhead = s.rxAhead - k :=
  (sub_sub s.rxIdx s.txIdx k).symm

theorem State.txStream_rxAhead (s : State) : s.txStream.1.rxAhead = s.rxAhead := by
  unfold State.rxAhead
  rw [State.txStream_frame]

/-- A pump keeps the shape of a started ring and sets `tx_busy` as it must be. -/
theorem State.txPump_ringAt (s : State) (isOpen : Bool) (h : s.ringStarted isOpen) : s.txPump.ringAt isOpen := by
  rw [State.ringAt_iff]
  right
  obtain ⟨h0, h1, h2, hplace⟩ := h
  have hsent (hidle : (s.slot s.txIdx).ack.idle = true) : s.ackAhead 0 = .sent :=
    h0.resolve_left fun e => by rw [← s.ackAhead_zero, e] at hidle; cases hidle
  rcases s.txPump_cases with ⟨hidle, hnext, he⟩ | ⟨i, harmed, hi, he⟩ | ⟨hsend, b, he⟩
  · rw [he]
    refine ⟨⟨h0, h1, h2, hplace⟩, fun hb => ?_⟩
    rw [← s.ackAhead_one] at hnext
    simp only [State.setBusy_ackAhead, hsent hidle, hnext, false_or, reduceCtorEq] at hb
    rcases hplace with ⟨-, -, -, h, -⟩ | ⟨-, -, -, h⟩ | ⟨-, -, -, h, -⟩
    · exact absurd hb h
    · exact absurd hb h
    · exact absurd h hnext
  · rcases hi with rfl | ⟨hidle, rfl⟩
    · rw [← s.ackAhead_zero] at harmed
      simp [harmed] at h0
    · have h0s := hsent hidle
      rw [← s.ackAhead_one] at harmed
      rw [h0s, harmed] at hplace
      have hack (k : Fin 3) := s.started_ackAhead 1 k
      rw [he]
      refine ⟨⟨.inl (hack 0), ?_, ?_, ?_⟩, fun _ => rfl⟩
      · rw [ringNext, hack 1]; exact h2
      · rw [ringNext, hack 2]; exact h0s ▸ nofun
      · rw [ringNext, hack 0, hack 1, hack 2, s.started_rxAhead 1]
        exact h0s ▸ ringPlace_rotate hplace
  · rw [← s.ackAhead_zero] at hsend
    rw [hsend] at hplace
    obtain ⟨h0', hrest⟩ := s.txStream_ackAhead hsend
    have hr1 := hrest 1 (by decide)
    have hr2 := hrest 2 (by decide)
    rw [he]
    refine ⟨⟨?_, ?_, ?_, ?_⟩, fun _ => rfl⟩
    · rw [State.txPut_ackAhead]; exact h0'
    · rw [State.txPut_ackAhead, hr1]; exact h1
    · rw [State.txPut_ackAhead, hr2]; exact h2
    · simp only [State.txPut_ackAhead, State.txPut_rxAhead, hr1, hr2, s.txStream_rxAhead]
      exact ringPlace_of_sending _ hplace

/-- In the empty ring there is nothing to send. -/
theorem State.ringEmpty.txPump_eq {s : State} (h : s.ringEmpty) : s.txPump = s.setBusy false := by
  rcases s.txPump_cases with ⟨-, -, he⟩ | ⟨i, harmed, hi, -⟩ | ⟨hsend, -, -⟩
  · exact he
  · rcases hi with rfl | ⟨-, rfl⟩
    · rw [← s.ackAhead_zero, h.first] at harmed; cases harmed
    · rw [← s.ackAhead_one, h.second] at harmed; cases harmed
  · rw [← s.ackAhead_zero, h.first] at hsend; cases hsend

/-- `TX_DONE` keeps the ring invariant, a spurious one too. -/
theorem State.txDone_ringInv (s : State) (hs : s.ringInv) : s.txDone.ringInv := by
  rw [State.ringInv_iff] at hs ⊢
  rw [s.txDone_delim]
  rcases (s.ringAt_iff _).mp hs with hempty | ⟨hstarted, -⟩
  · have hempty' : (s.setBusy false).ringEmpty := ⟨hempty.first, hempty.second, hempty.third, hempty.ahead, rfl⟩
    rw [State.txDone, hempty'.txPump_eq]
    exact (State.ringAt_iff _ _).mpr (.inl hempty')
  · exact State.txPump_ringAt _ _ (State.ringStarted.of_view (s := s) (fun _ => rfl) rfl hstarted)

/-! ### The request machine and the ring -/

/-- With the slot under `tx_idx` armed a pump starts it. -/
theorem State.txPump_of_armed (s : State) (h : s.ackAhead 0 = .toBeSend) : s.txPump = s.started s.txIdx := by
  rw [State.ackAhead_zero] at h
  rcases s.txPump_cases with ⟨hidle, -, -⟩ | ⟨i, -, hi, he⟩ | ⟨hsend, -, -⟩
  · rw [h] at hidle; cases hidle
  · rcases hi with rfl | ⟨hidle, -⟩
    · exact he
    · rw [h] at hidle; cases hidle
  · rw [h] at hsend; cases hsend

theorem State.ackAhead_setAck_rxIdx (s : State) (a : Ack) (k : Fin 3) :
    (s.setAck s.rxIdx a).ackAhead k = if k = s.rxAhead then a else s.ackAhead k := by
  rw [← s.ackAhead_setAck, s.add_rxAhead]

/-- Arming the slot of an open frame leaves a started ring started, with the frame closed. -/
theorem State.setAck_ringStarted (s : State) (hs : s.ringStarted true) :
    (s.setAck s.rxIdx .toBeSend).ringStarted false := by
  have hack := s.ackAhead_setAck_rxIdx .toBeSend
  have hahead : (s.setAck s.rxIdx .toBeSend).rxAhead = s.rxAhead := rfl
  obtain ⟨h0, h1, h2, ⟨-, hopen, -⟩ | ⟨hk, -, -, h2'⟩ | ⟨hk, -, h0', h1', -⟩⟩ := hs
  · cases hopen
  · rw [hk] at hack hahead
    refine ⟨?_, ?_, ?_, ?_⟩
    · rw [hack 0]; exact h0
    · rw [hack 1]; nofun
    · rw [hack 2]; exact h2
    · rw [hack 0, hack 1, hack 2, hahead]
      exact .inr (.inl ⟨rfl, nofun, nofun, h2'⟩)
  · rw [hk] at hack hahead
    refine ⟨?_, ?_, ?_, ?_⟩
    · rw [hack 0]; exact h0
    · rw [hack 1]; exact h1
    · rw [hack 2]; nofun
    · rw [hack 0, hack 1, hack 2, hahead]
      exact .inr (.inr ⟨rfl, nofun, h0', h1', nofun⟩)

/-- Arming the slot of an open frame keeps the shape of the ring, with the frame closed (R181). -/
theorem State.arm_ringAt (s : State) (hs : s.ringAt true) : (s.arm s.rxIdx).ringAt false := by
  rcases (s.ringAt_iff true).mp hs with ⟨h0, h1, h2, hk, hb⟩ | ⟨hstarted, -⟩
  · have hack := s.ackAhead_setAck_rxIdx .toBeSend
    rw [hk] at hack
    have harm : s.arm s.rxIdx = (s.setAck s.rxIdx .toBeSend).started (s.txIdx + 0) := by
      rw [State.arm, State.setAck_txBusy, hb, add_zero]
      exact State.txPump_of_armed _ (hack 0)
    have hview (k : Fin 3) := (s.setAck s.rxIdx .toBeSend).started_ackAhead 0 k
    simp only [hack, zero_add, State.setAck_txIdx] at hview
    rw [harm, State.ringAt_iff]
    refine .inr ⟨⟨.inl (hview 0), ?_, ?_, .inl ⟨?_, rfl, ?_, ?_, ?_⟩⟩, fun _ => rfl⟩
    · rw [hview 1]; simp [h1]
    · rw [hview 2]; simp [h2]
    · exact (State.started_rxAhead _ 0).trans ((sub_zero _).trans hk)
    · rw [hview 1]; simp [h1]
    · rw [hview 2]; simp [h2]
    · rw [hview 1]; simp [h1]
  · have hstarted' := s.setAck_ringStarted hstarted
    unfold State.arm
    dsimp only
    split
    · next hb => exact (State.ringAt_iff _ _).mpr (.inr ⟨hstarted', fun _ => hb⟩)
    · exact State.txPump_ringAt _ _ hstarted'

theorem length_filter_eq_sum {α : Type} (p : α → Bool) (l : List α) :
    (l.filter p).length = (l.map fun x => (p x).toNat).sum := by
  induction l with
  | nil => rfl
  | cons x l ih => cases h : p x <;> simp [h, ih, Nat.add_comm]

/-- The count of R40's `H1`, slot by slot. -/
theorem State.outstanding_eq (s : State) : s.outstanding = ∑ i : Fin 3, (s.slot i).ack.outstanding.toNat := by
  have hlist : s.slots.toList = List.ofFn s.slot := by
    apply List.ext_getElem
    · simp
    · intro i hi hi'
      simp only [Vector.getElem_toList, List.getElem_ofFn, State.slot]
  rw [State.outstanding, hlist, length_filter_eq_sum, List.map_ofFn, List.sum_ofFn]
  rfl

/-- Under `H1` no two slots are outstanding. -/
theorem State.outstanding_unique {s : State} (h : s.outstanding ≤ 1) {j k : Fin 3} (hjk : j ≠ k)
    (hj : (s.ackAhead j).outstanding = true) : (s.ackAhead k).outstanding = false := by
  have hsum : ∑ i : Fin 3, (s.ackAhead i).outstanding.toNat = s.outstanding := by
    rw [s.outstanding_eq]
    exact Equiv.sum_comp (Equiv.addLeft s.txIdx) fun i => (s.slot i).ack.outstanding.toNat
  have htwo : ∑ i ∈ {j, k}, (s.ackAhead i).outstanding.toNat ≤ 1 :=
    (Finset.sum_le_sum_of_subset (Finset.subset_univ _)).trans (hsum.le.trans h)
  rw [Finset.sum_pair hjk, hj] at htwo
  cases hk : (s.ackAhead k).outstanding with
  | false => rfl
  | true => simp [hk] at htwo

/-- The place of an `STX`'s target: `rx_idx` where that slot is `NOT_READY`, the next one otherwise (R127). -/
def State.targetAhead (s : State) : Fin 3 := if s.ackAhead s.rxAhead = .notReady then s.rxAhead else s.rxAhead + 1

theorem State.rxTarget_eq (s : State) : s.rxTarget = s.txIdx + s.targetAhead := by
  rw [State.rxTarget, State.targetAhead, State.ackAhead_rxAhead]
  split
  · exact s.add_rxAhead.symm
  · rw [← add_assoc, s.add_rxAhead]; rfl

/-- The state in which an accepted `STX` has opened a frame (R127). -/
def State.opened (s : State) : State :=
  { s.clearSlot s.rxTarget with rxIdx := s.rxTarget, delim := true, rxState := .vpn, nibCnt := 0, acc := 0 }

theorem State.opened_ackAhead (s : State) (k : Fin 3) :
    s.opened.ackAhead k = if k = s.targetAhead then .notReady else s.ackAhead k := by
  have h := s.slot_clearSlot s.rxTarget (s.txIdx + k)
  simp only [s.rxTarget_eq, add_right_inj] at h
  have hslot : s.opened.ackAhead k = ((s.clearSlot (s.txIdx + s.targetAhead)).slot (s.txIdx + k)).ack := by
    rw [← s.rxTarget_eq]; rfl
  rw [hslot, h]
  split <;> rfl

theorem State.opened_rxAhead (s : State) : s.opened.rxAhead = s.targetAhead := by
  have h : s.opened.rxAhead = s.rxTarget - s.txIdx := rfl
  rw [h, s.rxTarget_eq, add_sub_cancel_left]

/-- Opening a frame behind the slot under `tx_idx`, at a place `rx_idx` may stand. -/
theorem State.opened_ringAt_of_place (s : State) (hs : s.ringStarted false) (hbusy : s.busyOk) (hne : s.targetAhead ≠ 0)
    (hplace : ringPlace (s.ackAhead 0) (s.opened.ackAhead 1) (s.opened.ackAhead 2) s.targetAhead true) :
    s.opened.ringAt true := by
  have hack0 : s.opened.ackAhead 0 = s.ackAhead 0 := by rw [s.opened_ackAhead, if_neg hne.symm]
  have hcases (k : Fin 3) : s.opened.ackAhead k = .notReady ∨ s.opened.ackAhead k = s.ackAhead k := by
    rw [s.opened_ackAhead]
    split
    · exact .inl rfl
    · exact .inr rfl
  have hkeep (k : Fin 3) (a : Ack) (ha : a ≠ .notReady) (h : s.opened.ackAhead k = a) : s.ackAhead k = a := by
    rcases hcases k with e | e
    · exact absurd (h.symm.trans e) ha
    · exact e ▸ h
  rw [State.ringAt_iff]
  refine .inr ⟨⟨by rw [hack0]; exact hs.first, fun h => hs.second (hkeep 1 _ nofun h), fun h => hs.third (hkeep 2 _ nofun h),
    by rw [hack0, s.opened_rxAhead]; exact hplace⟩, fun h => hbusy ?_⟩
  rw [hack0] at h
  exact h.imp_right (Or.imp (hkeep 1 _ nofun) (hkeep 2 _ nofun))

/-- Under `H1` an `STX` whose target is free keeps the shape of the ring, with a frame open (R40, R127). -/
theorem State.opened_ringAt (s : State) (hs : s.ringAt false) (hhost : s.outstanding ≤ 1) : s.opened.ringAt true := by
  have hack := s.opened_ackAhead
  rcases (s.ringAt_iff false).mp hs with ⟨h0, h1, h2, hk, hb⟩ | ⟨hstarted, hbusy⟩
  · have htgt : s.targetAhead = 0 := by rw [State.targetAhead, hk, if_pos h0]
    have hrx := s.opened_rxAhead
    rw [htgt] at hack hrx
    exact (State.ringAt_iff _ _).mpr (.inl ⟨hack 0, (hack 1).trans h1, (hack 2).trans h2, hrx, hb⟩)
  · have hplaceAt (k : Fin 3) (htgt : s.targetAhead = k) (hne : k ≠ 0) (hplace : ringPlace (s.ackAhead 0)
        (if 1 = k then .notReady else s.ackAhead 1) (if 2 = k then .notReady else s.ackAhead 2) k true) :
        s.opened.ringAt true :=
      s.opened_ringAt_of_place hstarted hbusy (htgt ▸ hne) (by rw [hack 1, hack 2, htgt]; exact hplace)
    have htarget (hnr : s.ackAhead s.rxAhead = .notReady) : s.targetAhead = s.rxAhead := if_pos hnr
    have htarget' (hnr : s.ackAhead s.rxAhead ≠ .notReady) : s.targetAhead = s.rxAhead + 1 := if_neg hnr
    rcases hstarted.place with ⟨hk, -, -, h2, -⟩ | ⟨hk, -, h1, h2⟩ | ⟨hk, -, h0, h1, h2⟩
    · rw [hk] at htarget'
      have hnr : s.ackAhead 0 ≠ .notReady := by rcases hstarted.first with h | h <;> rw [h] <;> nofun
      exact hplaceAt 1 (htarget' hnr) (by decide) (.inr (.inl ⟨rfl, fun _ => rfl, nofun, h2⟩))
    · rw [hk] at htarget htarget'
      cases h : s.ackAhead 1 with
      | notReady => exact hplaceAt 1 (htarget h) (by decide) (.inr (.inl ⟨rfl, fun _ => rfl, nofun, h2⟩))
      | toBeSend =>
        have h0 : s.ackAhead 0 = .sent := by
          have hfree := State.outstanding_unique hhost (j := 1) (k := 0) (by decide) (by rw [h]; rfl)
          rcases hstarted.first with h0 | h0
          · rw [h0] at hfree; cases hfree
          · exact h0
        exact hplaceAt 2 (htarget' (by rw [h]; nofun)) (by decide) (.inr (.inr ⟨rfl, fun _ => rfl, h0, h, nofun⟩))
      | sending => exact absurd h hstarted.second
      | sent => exact absurd h h1
    · rw [hk] at htarget
      have hfree := State.outstanding_unique hhost (j := 1) (k := 2) (by decide) (by rw [h1]; rfl)
      cases h : s.ackAhead 2 with
      | notReady => exact hplaceAt 2 (htarget h) (by decide) (.inr (.inr ⟨rfl, fun _ => rfl, h0, h1, nofun⟩))
      | toBeSend => rw [h] at hfree; cases hfree
      | sending => exact absurd h hstarted.third
      | sent => exact absurd h h2

/-- The ring invariant reads the acks, the indexes, `delim` and `tx_busy` only. -/
theorem State.FillsSlot.ringAt {s u : State} (h : s.FillsSlot u) {isOpen : Bool} (hs : s.ringAt isOpen) :
    u.ringAt isOpen := by
  have hack (k : Fin 3) : u.ackAhead k = s.ackAhead k := by
    unfold State.ackAhead
    rw [h.ack_eq, h.txIdx_eq]
  unfold State.ringAt State.rxAhead
  rw [hack, hack, hack, h.rxIdx_eq, h.txIdx_eq, h.txBusy_eq]
  exact hs

theorem State.errorPath_ringInv (s : State) (hs : s.ringAt true) : s.errorPath.ringInv := by
  have herr : (s.setErr s.rxIdx).ringAt true := by
    have hack (k : Fin 3) : (s.setErr s.rxIdx).ackAhead k = s.ackAhead k := by
      unfold State.ackAhead
      rw [State.slot_setErr]
      split <;> rfl
    unfold State.ringAt
    rw [hack, hack, hack]
    exact hs
  exact (State.ringInv_iff _).mpr (State.arm_ringAt _ herr)

theorem ringPlace_close {a0 a1 a2 : Ack} {ahead : Fin 3} {isOpen : Bool} (h : ringPlace a0 a1 a2 ahead isOpen) :
    ringPlace a0 a1 a2 ahead false := by
  rcases h with ⟨hk, -, h⟩ | ⟨hk, -, h⟩ | ⟨hk, -, h⟩
  · exact .inl ⟨hk, rfl, h⟩
  · exact .inr (.inl ⟨hk, nofun, h⟩)
  · exact .inr (.inr ⟨hk, nofun, h⟩)

/-- Closing a frame without arming it leaves `rx_idx` where it may stand. -/
theorem State.ringAt_close (s : State) {isOpen : Bool} (hs : s.ringAt isOpen) : s.ringAt false := by
  refine (s.ringAt_iff false).mpr (((s.ringAt_iff isOpen).mp hs).imp_right fun ⟨hstarted, hbusy⟩ => ?_)
  exact ⟨⟨hstarted.first, hstarted.second, hstarted.third, ringPlace_close hstarted.place⟩, hbusy⟩

theorem State.rxStx_ringInv (s : State) (hs : s.ringAt false) (hhost : s.outstanding ≤ 1) : s.rxStx.ringInv := by
  rw [State.ringInv_iff]
  rcases s.rxStx_cases with ⟨-, h⟩ | ⟨-, h⟩
  · rw [h]; exact hs
  · rw [h]; exact s.opened_ringAt hs hhost

theorem State.rxEtx_ringInv (s : State) (hs : s.ringAt true) : s.rxEtx.ringInv := by
  obtain ⟨u, hu, h, -⟩ := s.rxEtx_eq
  rw [State.ringInv_iff, h, ← hu.rxIdx_eq]
  exact u.arm_ringAt (hu.ringAt hs)

theorem State.FieldEnds.ringInv {s t : State} (h : s.FieldEnds t) (hs : s.ringAt true) (hd : s.delim = true) :
    t.ringInv := by
  obtain ⟨u, -, hu, rfl | rfl⟩ := h
  · rw [State.ringInv_iff, hu.delim_eq, hd]
    exact hu.ringAt hs
  · exact u.errorPath_ringInv (hu.ringAt hs)

/-- A byte that respects `H1` keeps the ring invariant. -/
theorem State.rxByte_ringInv (s : State) (b : Byte) (hrx : s.rxInv) (hs : s.ringInv) (hhost : s.hostOk b) :
    (s.rxByte b).ringInv := by
  rw [State.ringInv_iff] at hs
  rcases s.rxByte_outcomes b with ⟨hvf, hb, hd, h⟩ | ⟨-, hd, h⟩ | ⟨-, h⟩ | ⟨hf, h⟩
  · rw [h]; exact s.rxStx_ringInv (hd ▸ hs) (hhost hb hvf hd)
  · rw [h]; exact s.rxEtx_ringInv (hd ▸ hs)
  · rw [h]; exact (State.ringInv_iff _).mpr (s.ringAt_close hs)
  · have hd := hrx.1 hf
    exact h.ringInv (hd ▸ hs) hd

/-- Settles O12: `H1` is needed where an `STX` opens a frame, the request invariant in a field state. -/
theorem byteEventsKeepTheRingInvariant : Obligations.ByteEventsKeepTheRingInvariant := by
  refine ⟨fun s t b hrx hs hhost h => ?_, fun s t hs h => ?_⟩
  · obtain rfl : s.rxByte b = t := Host.Outcome.next.inj h
    exact s.rxByte_ringInv b hrx hs hhost
  · obtain rfl : s.txDone = t := Host.Outcome.next.inj h
    exact s.txDone_ringInv hs

/-! ### O14: the newest armed slot waits -/

/-- A started ring in which a slot `k` places ahead is armed: it is the next one, or the second behind an armed one. -/
theorem State.ringAt.of_armed {s : State} {isOpen : Bool} (hs : s.ringAt isOpen) {k : Fin 3} (hk : s.ackAhead k = .toBeSend) :
    s.txBusy = true ∧
      (k = 1 ∧ (s.ackAhead 0 = .sending ∨ s.ackAhead 0 = .sent) ∨
       k = 2 ∧ s.rxAhead = 2 ∧ s.ackAhead 0 = .sent ∧ s.ackAhead 1 = .toBeSend) := by
  rcases (s.ringAt_iff _).mp hs with ⟨h0, h1, h2, -, -⟩ | ⟨⟨h0, h1, h2, hplace⟩, hbusy⟩
  · fin_cases k
    · cases h0.symm.trans hk
    · cases h1.symm.trans hk
    · cases h2.symm.trans hk
  · fin_cases k
    · rcases h0 with h | h
      · cases h.symm.trans hk
      · cases h.symm.trans hk
    · exact ⟨hbusy (.inr (.inl hk)), .inl ⟨rfl, h0⟩⟩
    · refine ⟨hbusy (.inr (.inr hk)), .inr ⟨rfl, ?_⟩⟩
      rcases hplace with ⟨-, -, -, h, -⟩ | ⟨-, -, -, h⟩ | ⟨hahead, -, h0', h1', -⟩
      · exact absurd hk h
      · exact absurd hk h
      · exact ⟨hahead, h0', h1'⟩

/-- Where the slot under `tx_idx` is idle and the next one armed, `TX_DONE` starts the next one. -/
theorem State.txDone_of_next_armed (s : State) (hidle : (s.slot s.txIdx).ack.idle = true)
    (hnext : (s.slot (ringNext s.txIdx)).ack = .toBeSend) :
    s.txDone = (s.setBusy false).started (ringNext s.txIdx) := by
  rcases (s.setBusy false).txPump_cases with ⟨-, h, -⟩ | ⟨i, harmed, hi, he⟩ | ⟨hsend, -, -⟩
  · exact absurd hnext h
  · rcases hi with rfl | ⟨-, rfl⟩
    · rw [State.setBusy_txIdx, State.setBusy_slot] at harmed
      rw [harmed] at hidle
      cases hidle
    · exact he
  · rw [State.setBusy_txIdx, State.setBusy_slot] at hsend
    rw [hsend] at hidle
    cases hidle

/-- Settles O14: of two armed slots the one current for RX is the second ahead, and the next one is started. -/
theorem newestArmedSlotWaitsItsTurn : Obligations.NewestArmedSlotWaitsItsTurn := by
  intro s k hs hk hkArmed hrxArmed
  refine ⟨s.txDone, rfl, ?_⟩
  rw [State.ringInv_iff] at hs
  rw [s.slot_ack_eq] at hkArmed
  have hrx : s.ackAhead s.rxAhead = .toBeSend := by rw [s.ackAhead_rxAhead]; exact hrxArmed
  have hne : k - s.txIdx ≠ s.rxAhead := fun h => hk (sub_left_injective h)
  obtain ⟨hahead, h0, h1⟩ : s.rxAhead = 2 ∧ s.ackAhead 0 = .sent ∧ s.ackAhead 1 = .toBeSend := by
    rcases (hs.of_armed hkArmed).2 with ⟨hk1, -⟩ | ⟨-, h⟩
    · rcases (hs.of_armed hrx).2 with ⟨hr1, -⟩ | ⟨-, h⟩
      · exact absurd (hk1.trans hr1.symm) hne
      · exact h
    · exact h
  rw [s.ackAhead_zero] at h0
  have hother : s.rxIdx ≠ ringNext s.txIdx := by
    rw [← s.add_rxAhead, hahead, ringNext, Ne, add_right_inj]
    decide
  rw [s.txDone_of_next_armed (by rw [h0]; rfl) h1, State.started_slot, State.slot_setAck, if_neg hother]
  exact hrxArmed

end Sys2Proof.Machine

/-! The bounded liveness of R40 (b), O13: the slot being sent is `SENT` after at most 14 completions, an armed slot behind an
idle one after at most 15, and an armed slot waits for at most one other. -/

namespace Sys2Proof.Machine

theorem execTimes_txDone (n : Nat) (s : State) : execTimes .txDone n s = .next (State.txDone^[n] s) := by
  induction n generalizing s with
  | zero => rfl
  | succ n ih => exact ih s.txDone

/-- After `n` completions slot `i` is `SENT` and under `tx_idx`, and the other slots are as they were. -/
def State.SentAfter (s : State) (n : Nat) (i : Fin 3) : Prop :=
  (State.txDone^[n] s).txIdx = i ∧ ∀ j, (State.txDone^[n] s).slot j = (s.setAck i .sent).slot j

theorem State.SentAfter.ack {s : State} {n : Nat} {i : Fin 3} (h : s.SentAfter n i) :
    ((State.txDone^[n] s).slot i).ack = .sent := by
  rw [h.2, State.slot_setAck, if_pos rfl]

theorem State.SentAfter.other {s : State} {n : Nat} {i j : Fin 3} (h : s.SentAfter n i) (hj : j ≠ i) :
    (State.txDone^[n] s).slot j = s.slot j := by
  rw [h.2, State.slot_setAck, if_neg hj]

/-! ### The slot being sent -/

theorem State.txDone_of_sending (s : State) (hsend : (s.slot s.txIdx).ack = .sending) :
    ∃ b, s.txDone = (s.setBusy false).txStream.1.txPut b := by
  rcases (s.setBusy false).txPump_cases with ⟨hidle, -, -⟩ | ⟨i, harmed, hi, -⟩ | ⟨-, h⟩
  · rw [State.setBusy_txIdx, State.setBusy_slot, hsend] at hidle
    cases hidle
  · rcases hi with rfl | ⟨hidle, -⟩
    · exact absurd (hsend.symm.trans harmed) nofun
    · rw [State.setBusy_txIdx, State.setBusy_slot, hsend] at hidle
      cases hidle
  · exact h

/-- With the last byte the slot being sent is `SENT`. -/
theorem State.txDone_last (s : State) (hsend : (s.slot s.txIdx).ack = .sending) (hlast : s.txCursor = s.streamLen) :
    s.SentAfter 1 s.txIdx := by
  obtain ⟨b, h⟩ := s.txDone_of_sending hsend
  unfold State.SentAfter
  rw [Function.iterate_one, h]
  refine ⟨(s.setBusy false).txStream_txIdx, fun j => ?_⟩
  rw [State.txPut_slot, State.txStream_slot, State.setBusy_txCursor, State.setBusy_streamLen, if_pos hlast]
  rfl

/-- Before the last byte the cursor moves on in a response of the same length. -/
theorem State.txDone_middle (s : State) (hsend : (s.slot s.txIdx).ack = .sending) (hcur : s.cursorOk)
    (hmore : s.txCursor.toNat < s.streamLen.toNat) :
    s.txDone.txIdx = s.txIdx ∧ (∀ j, s.txDone.slot j = s.slot j) ∧
      s.txDone.txCursor.toNat = s.txCursor.toNat + 1 ∧ s.txDone.streamLen = s.streamLen := by
  obtain ⟨b, h⟩ := s.txDone_of_sending hsend
  obtain ⟨hlow, -, hhigh⟩ := hcur.bounds hsend
  have hne : s.txCursor ≠ s.streamLen := fun e => Nat.ne_of_lt hmore (congrArg BitVec.toNat e)
  have hslot (j : Fin 3) : s.txDone.slot j = s.slot j := by
    rw [h, State.txPut_slot, State.txStream_slot, State.setBusy_txCursor, State.setBusy_streamLen, if_neg hne,
      State.setBusy_slot]
  have hidx : s.txDone.txIdx = s.txIdx := by
    rw [h, State.txPut_txIdx, State.txStream_txIdx, State.setBusy_txIdx]
  have hcursor : s.txDone.txCursor = s.txCursor + 1 := by
    rw [h, State.txPut_txCursor, State.txStream_txCursor, State.setBusy_txCursor]
  have hlen : s.txDone.txLen = s.streamLen := by
    rw [h, State.txPut_txLen, State.txStream_txLen, State.setBusy_streamLen]
  have hnat : (s.txCursor + 1).toNat = s.txCursor.toNat + 1 := by bv_omega
  have hpast : s.txCursor + 1 ≠ 1 := by
    intro e
    rw [e] at hnat
    have : (1 : BitVec 4).toNat = 1 := rfl
    omega
  refine ⟨hidx, hslot, by rw [hcursor, hnat], ?_⟩
  rw [State.streamLen, hcursor, if_neg hpast, hlen]

/-- One completion a byte: `k` bytes before the last. -/
theorem State.sentAfter_of_sending (k : Nat) : ∀ s : State, (s.slot s.txIdx).ack = .sending → s.cursorOk →
    s.txCursor.toNat + k = s.streamLen.toNat → s.SentAfter (k + 1) s.txIdx := by
  induction k with
  | zero => exact fun s hsend _ hk => s.txDone_last hsend (BitVec.eq_of_toNat_eq hk)
  | succ k ih =>
    intro s hsend hcur hk
    obtain ⟨hidx, hslot, hcursor, hlen⟩ := s.txDone_middle hsend hcur (by omega)
    have hrest := ih s.txDone (by rw [hidx, hslot]; exact hsend) ((s.setBusy false).txPump_cursorOk hcur)
      (by rw [hcursor, hlen]; omega)
    refine ⟨hrest.1.trans hidx, fun j => (hrest.2 j).trans ?_⟩
    rw [State.slot_setAck, State.slot_setAck, hidx, hslot]

/-- The slot being sent has at most 14 bytes to go. -/
theorem State.sending_sentAfter (s : State) (hsend : (s.slot s.txIdx).ack = .sending) (hcur : s.cursorOk) :
    ∃ n ≤ 14, s.SentAfter n s.txIdx := by
  obtain ⟨hlow, hmid, hhigh⟩ := hcur.bounds hsend
  exact ⟨s.streamLen.toNat - s.txCursor.toNat + 1, by omega, s.sentAfter_of_sending _ hsend hcur (by omega)⟩

/-! ### An armed slot behind an idle one -/

/-- The first completion starts it, and at most 14 more send it. -/
theorem State.next_sentAfter (s : State) (hidle : (s.slot s.txIdx).ack.idle = true)
    (hnext : (s.slot (ringNext s.txIdx)).ack = .toBeSend) : ∃ n ≤ 15, s.SentAfter n (ringNext s.txIdx) := by
  have h := s.txDone_of_next_armed hidle hnext
  have hidx : s.txDone.txIdx = ringNext s.txIdx := by rw [h, State.started_txIdx]
  have hslot (j : Fin 3) : s.txDone.slot j = (s.setAck (ringNext s.txIdx) .sending).slot j := by
    rw [h, State.started_slot]; rfl
  obtain ⟨n, hn, hrest⟩ := s.txDone.sending_sentAfter (by rw [hidx, hslot, State.slot_setAck, if_pos rfl])
    (fun _ => .inl (by rw [h, State.started_txCursor]))
  refine ⟨n + 1, by omega, hrest.1.trans hidx, fun j => (hrest.2 j).trans ?_⟩
  rw [hidx, State.slot_setAck, State.slot_setAck, hslot, State.slot_setAck]
  split <;> rfl

/-- After a slot is sent, an armed slot behind it is. -/
theorem State.SentAfter.next {s : State} {n : Nat} {i : Fin 3} (h : s.SentAfter n i)
    (hnext : (s.slot (ringNext i)).ack = .toBeSend) : ∃ m ≤ n + 15, ((State.txDone^[m] s).slot (ringNext i)).ack = .sent := by
  have hne : ringNext i ≠ i := by simp [ringNext]
  have hidle : ((State.txDone^[n] s).slot (State.txDone^[n] s).txIdx).ack.idle = true := by
    rw [h.1, h.ack]; rfl
  have harmed : ((State.txDone^[n] s).slot (ringNext (State.txDone^[n] s).txIdx)).ack = .toBeSend := by
    rw [h.1, h.other hne]; exact hnext
  obtain ⟨m, hm, hsent⟩ := State.next_sentAfter _ hidle harmed
  refine ⟨m + n, by omega, ?_⟩
  have hack := hsent.ack
  rwa [h.1, ← Function.iterate_add_apply] at hack

/-- Each armed slot is `SENT` after at most 30 completions. -/
theorem State.armed_sent (s : State) (hs : s.ringInv) (hcur : s.cursorOk) (i : Fin 3)
    (harmed : (s.slot i).ack = .toBeSend) : ∃ n ≤ 30, ((State.txDone^[n] s).slot i).ack = .sent := by
  rw [State.ringInv_iff] at hs
  have hi : i = s.txIdx + (i - s.txIdx) := (add_sub_cancel s.txIdx i).symm
  have hk := s.slot_ack_eq i ▸ harmed
  rcases (hs.of_armed hk).2 with ⟨hone, h0⟩ | ⟨htwo, -, h0, h1⟩
  · obtain rfl : i = ringNext s.txIdx := by rw [hi, hone]; rfl
    rw [s.ackAhead_zero] at h0
    rcases h0 with hsend | hsent
    · obtain ⟨n, hn, h⟩ := s.sending_sentAfter hsend hcur
      obtain ⟨m, hm, hack⟩ := h.next harmed
      exact ⟨m, by omega, hack⟩
    · obtain ⟨n, hn, h⟩ := s.next_sentAfter (by rw [hsent]; rfl) harmed
      exact ⟨n, by omega, h.ack⟩
  · obtain rfl : i = ringNext (ringNext s.txIdx) := by rw [hi, htwo]; exact (add_assoc s.txIdx 1 1).symm
    rw [s.ackAhead_zero] at h0
    obtain ⟨n, hn, h⟩ := s.next_sentAfter (by rw [h0]; rfl) h1
    obtain ⟨m, hm, hack⟩ := h.next harmed
    exact ⟨m, by omega, hack⟩

/-- Settles O13: the place of an armed slot in the ring, and the completions it takes from there. -/
theorem armedSlotsWillBeSent : Obligations.ArmedSlotsWillBeSent := by
  refine ⟨fun s hs ⟨i, harmed⟩ => ?_, fun s i hs hcounter harmed => ?_⟩
  · rw [State.ringInv_iff] at hs
    rw [s.slot_ack_eq] at harmed
    rw [← s.ackAhead_zero, ← s.ackAhead_one]
    obtain ⟨hbusy, ⟨hone, -⟩ | ⟨-, -, -, h1⟩⟩ := hs.of_armed harmed
    · exact ⟨hbusy, .inr (.inr (.inl (hone ▸ harmed)))⟩
    · exact ⟨hbusy, .inr (.inr (.inl h1))⟩
  · obtain ⟨n, hn, hack⟩ := s.armed_sent hs (s.counterInv_iff.mp hcounter).2 i harmed
    exact ⟨n, State.txDone^[n] s, by omega, execTimes_txDone n s, hack⟩

end Sys2Proof.Machine

/-! The machine's invariant, O9, in two halves: `displayInv` on the display's registers and `Slot.ok` on every slot. An
operation that leaves a half's registers alone keeps that half; the rest of this part is one lemma for each operation. -/

namespace Sys2Proof.Machine

/-! ### The two halves of the invariant -/

/-- A slot's id is 0 or valid (R21), and an erroneous slot is not `NOT_READY` (R276 c). -/
def Slot.ok (cfg : Config) (sl : Slot) : Prop :=
  (sl.cmd = 0 ∨ invalidId cfg sl.cmd = false) ∧ (sl.err = true → sl.ack ≠ .notReady)

/-- The invariants of the display's registers. -/
structure State.displayInv (s : State) : Prop where
  fb : s.fbInv
  blink : s.blinkInv
  layout : s.layoutInv
  ver : s.verInv

theorem State.inv_iff (s : State) : s.inv ↔ s.displayInv ∧ ∀ i, (s.slot i).ok s.cfg := by
  constructor
  · rintro ⟨hfb, hblink, hcmd, herr, hlayout, hver⟩
    exact ⟨⟨hfb, hblink, hlayout, hver⟩, fun i => ⟨hcmd i, herr i⟩⟩
  · rintro ⟨⟨hfb, hblink, hlayout, hver⟩, hslots⟩
    exact ⟨hfb, hblink, fun i => (hslots i).1, fun i => (hslots i).2, hlayout, hver⟩

theorem State.displayInv_of_display {s t : State} (h : t.display = s.display) (hs : s.displayInv) : t.displayInv := by
  obtain ⟨hfb, hver, hsent, htask, hphase, hlayout, hcfg⟩ := State.display_eq_iff.mp h
  obtain ⟨h1, h2, h3, h4⟩ := hs
  constructor
  · simpa only [State.fbInv, hfb] using h1
  · simpa only [State.blinkInv, htask, hphase] using h2
  · simpa only [State.layoutInv, hlayout, hcfg] using h3
  · simpa only [State.verInv, hver, hsent, hcfg] using h4

/-- From `s` to `t` the invariant and the parameters are kept. -/
def State.Keeps (s t : State) : Prop := (s.inv → t.inv) ∧ t.cfg = s.cfg

namespace State.Keeps

variable {s t u : State}

theorem refl (s : State) : s.Keeps s := ⟨id, rfl⟩

theorem trans (h : s.Keeps t) (h' : t.Keeps u) : s.Keeps u := ⟨h'.1 ∘ h.1, h'.2.trans h.2⟩

/-- An operation of the link: the display stands, and every slot stays well formed. -/
theorem of_display (hd : t.display = s.display) (h : ∀ i, (∀ j, (s.slot j).ok s.cfg) → (t.slot i).ok s.cfg) :
    s.Keeps t := by
  have hcfg := State.cfg_of_display hd
  refine ⟨fun hs => ?_, hcfg⟩
  obtain ⟨hdisplay, hslots⟩ := s.inv_iff.mp hs
  exact t.inv_iff.mpr ⟨State.displayInv_of_display hd hdisplay, fun i => hcfg ▸ h i hslots⟩

/-- An operation of the display: the link stands. -/
theorem of_link (hl : t.link = s.link) (h : s.displayInv → t.displayInv) : s.Keeps t := by
  have hcfg : t.cfg = s.cfg := congrArg Link.cfg hl
  have hslots : t.slots = s.slots := congrArg Link.slots hl
  refine ⟨fun hs => ?_, hcfg⟩
  obtain ⟨hdisplay, hok⟩ := s.inv_iff.mp hs
  exact t.inv_iff.mpr ⟨h hdisplay, fun i => by rw [State.slot_congr s t hslots, hcfg]; exact hok i⟩

/-- Neither the slots nor the display's registers change. -/
theorem of_same (hd : t.display = s.display) (hslots : t.slots = s.slots) : s.Keeps t :=
  of_display hd fun i hs => by rw [State.slot_congr s t hslots]; exact hs i

end State.Keeps

theorem State.emit_keeps (s : State) (o : Output) : s.Keeps (s.emit o) := .of_same rfl rfl

theorem State.ret_keeps (s : State) (v : Ret) : s.Keeps (s.ret v) := .of_same rfl rfl

/-! ### The slots -/

theorem Slot.cleared_ok (cfg : Config) (init : Half) : (Slot.cleared init).ok cfg := ⟨.inl rfl, nofun⟩

theorem Slot.Advances.ok {cfg : Config} {sl sl' : Slot} (h : sl.Advances sl') (hok : sl.ok cfg) : sl'.ok cfg := by
  unfold Slot.ok
  rw [h.cmd_eq, h.err_eq, Ne, h.notReady_iff]
  exact hok

/-- Arming a slot, erroneous or not, leaves it well formed. -/
theorem Slot.ok.armed {cfg : Config} {sl : Slot} (h : sl.ok cfg) (err : Bool) :
    ({ sl with err := err, ack := .toBeSend } : Slot).ok cfg := ⟨h.1, nofun⟩

theorem State.arm_keeps (s : State) (i : Fin 3) : s.Keeps (s.arm i) := by
  refine .of_display (s.arm_display i) fun j hs => (s.arm_advances i j).ok ?_
  rw [State.slot_setAck]
  split
  · exact (hs j).armed _
  · exact hs j

theorem State.errorPath_keeps (s : State) : s.Keeps s.errorPath := by
  refine .of_display s.errorPath_display fun j hs => ?_
  have hadv : (((s.setErr s.rxIdx).setAck s.rxIdx .toBeSend).slot j).Advances (s.errorPath.slot j) :=
    State.arm_advances _ _ j
  refine hadv.ok ?_
  rw [State.slot_setAck, State.slot_setErr]
  split
  · exact (hs j).armed true
  · exact hs j

theorem State.txPump_keeps (s : State) : s.Keeps s.txPump :=
  .of_display s.txPump_display fun j hs => (s.txPump_advances j).ok (hs j)

theorem State.txDone_keeps (s : State) : s.Keeps s.txDone :=
  (Keeps.of_same (t := s.setBusy false) rfl rfl).trans (State.txPump_keeps _)

/-- `TX_NEXT` by itself lets each slot go on as in a pump. -/
theorem State.txNext_advances (s : State) (j : Fin 3) : (s.slot j).Advances (s.txNext.1.slot j) := by
  have h := s.txPump_advances j
  have hslot : s.txPump.slot j = s.txNext.1.slot j := by
    unfold State.txPump
    split
    · next he => rw [he]; rfl
    · next he => rw [he]; rfl
  rwa [hslot] at h

theorem State.txNext_keeps (s : State) : s.Keeps s.txNext.1 :=
  .of_display s.txNext_display fun j hs => (s.txNext_advances j).ok (hs j)

theorem State.clearSlot_keeps (s : State) (i : Fin 3) : s.Keeps (s.clearSlot i) := by
  refine .of_display rfl fun j hs => ?_
  rw [State.slot_clearSlot]
  split
  · exact Slot.cleared_ok _ _
  · exact hs j

/-- Filling in the slot of a frame keeps every slot well formed. -/
theorem State.FillsSlot.keeps {s u : State} (h : s.FillsSlot u) (hd : u.display = s.display) : s.Keeps u := by
  refine .of_display hd fun j hs => ?_
  by_cases hj : j = s.rxIdx
  · subst hj
    obtain ⟨hcmd, herr⟩ := hs s.rxIdx
    refine ⟨?_, by rw [h.err, h.ack]; exact herr⟩
    rcases h.cmd with e | e
    · rw [e]; exact hcmd
    · exact e
  · rw [h.others j hj]; exact hs j

theorem State.FieldEnds.keeps {s t : State} (h : s.FieldEnds t) : s.Keeps t := by
  obtain ⟨u, hd, hu, rfl | rfl⟩ := h
  · exact hu.keeps hd
  · exact (hu.keeps hd).trans u.errorPath_keeps

/-! ### The version counters through the drawing (R48, R204) -/

/-- Every version counter of a canvas fits `verBits` bits. -/
def Canvas.verOk (verBits : Nat) (cv : Canvas) : Prop := ∀ p : Fin 6, cv.ver[p.val] < 2 ^ verBits

theorem bumpVersion_lt (verBits : Nat) (ver : Vector Nat 6) (q : Nat) (h : ∀ p : Fin 6, ver[p.val] < 2 ^ verBits)
    (p : Fin 6) : (bumpVersion verBits ver q)[p.val] < 2 ^ verBits := by
  unfold bumpVersion
  rw [Vector.getElem_setIfInBounds]
  split
  · exact Nat.mod_lt _ (Nat.two_pow_pos verBits)
  · exact h p

theorem writeBitsLoop_verOk (vb col fuel v g rem : Nat) (cv : Canvas) (h : cv.verOk vb) :
    (writeBitsLoop vb col fuel v g rem cv).verOk vb := by
  induction fuel generalizing v g rem cv with
  | zero => exact h
  | succ n ih =>
    simp only [writeBitsLoop]
    split
    · exact ih _ _ _ _ (bumpVersion_lt vb cv.ver _ h)
    · exact h

theorem writeBits_verOk (vb v s w c : Nat) (cv : Canvas) (h : cv.verOk vb) : (writeBits vb v s w c cv).verOk vb := by
  unfold writeBits
  split
  · exact h
  · exact writeBitsLoop_verOk _ _ _ _ _ _ cv h

section Draw

variable (cfg : Config) (x : LineCtx)

theorem blankCol_verOk (c : Nat) (cv : Canvas) (h : cv.verOk cfg.verBits) : (blankCol cfg x c cv).verOk cfg.verBits :=
  writeBits_verOk _ _ _ _ _ cv h

theorem blankCols_verOk (n c : Nat) (cv : Canvas) (h : cv.verOk cfg.verBits) :
    (blankCols cfg x n c cv).verOk cfg.verBits := by
  induction n generalizing c cv with
  | zero => exact h
  | succ n ih => exact ih _ _ (blankCol_verOk cfg x c cv h)

theorem blitCols_verOk (code : Byte) (n j c : Nat) (cv : Canvas) (h : cv.verOk cfg.verBits) :
    (blitCols cfg x code n j c cv).verOk cfg.verBits := by
  induction n generalizing j c cv with
  | zero => exact h
  | succ n ih => exact ih _ _ _ (writeBits_verOk _ _ _ _ _ cv h)

theorem stuffChar_verOk (code : Byte) (c hi : Nat) (cv : Canvas) (h : cv.verOk cfg.verBits) :
    (stuffChar cfg x code c hi cv).verOk cfg.verBits := by
  unfold stuffChar
  split
  · exact h
  · exact blitCols_verOk cfg x code _ _ _ cv h

theorem drawText_verOk (hi : Nat) (ts : List Byte) (d : Drawn) (h : d.cv.verOk cfg.verBits) :
    (drawText cfg x hi ts d).cv.verOk cfg.verBits := by
  induction ts generalizing d with
  | nil => exact h
  | cons t ts ih => exact ih _ (stuffChar_verOk cfg x _ _ _ _ (blankCol_verOk cfg x _ _ h))

theorem drawRight_verOk (code : Byte) (d : Drawn) (h : d.cv.verOk cfg.verBits) :
    (drawRight cfg x code d).cv.verOk cfg.verBits := by
  unfold drawRight
  split
  · exact blankCols_verOk cfg x _ _ _ (stuffChar_verOk cfg x _ _ _ _ h)
  · exact h

theorem drawLine_verOk (content : Vector Byte 20) (cv : Canvas) (h : cv.verOk cfg.verBits) :
    (drawLine cfg x content cv).1.verOk cfg.verBits :=
  blankCols_verOk cfg x _ _ _ <| drawText_verOk cfg x _ _ _ <| blankCols_verOk cfg x _ _ _ <|
    drawRight_verOk cfg x _ _ (stuffChar_verOk cfg x _ _ _ _ h)

theorem qrRows_verOk (v off : Nat) (k : Byte) (n row : Nat) (cv : Canvas) (h : cv.verOk cfg.verBits) :
    (qrRows cfg v off k n row cv).verOk cfg.verBits := by
  induction n generalizing row cv with
  | zero => exact h
  | succ n ih => exact ih _ _ (bumpVersion_lt _ cv.ver row h)

end Draw

theorem clearPages_verOk (vb n p : Nat) (cv : Canvas) (h : cv.verOk vb) : (clearPages vb n p cv).verOk vb := by
  induction n generalizing p cv with
  | zero => exact h
  | succ n ih => exact ih _ _ (bumpVersion_lt vb cv.ver p h)

/-! ### The rendering operations -/

theorem State.verInv_withCanvas (s : State) (cv : Canvas) (h : s.verInv) (hcv : cv.verOk s.cfg.verBits) :
    (s.withCanvas cv).verInv := fun p => ⟨hcv p, (h p).2⟩

theorem State.verInv.canvas {s : State} (h : s.verInv) : s.canvas.verOk s.cfg.verBits := fun p => (h p).1

/-- A canvas drawn from the state's keeps the display's invariant where its form and its counters are right. -/
theorem State.withCanvas_keeps (s : State) (cv : Canvas) (hfb : s.fb.wf = true → cv.fb.wf = true)
    (hver : s.canvas.verOk s.cfg.verBits → cv.verOk s.cfg.verBits) : s.Keeps (s.withCanvas cv) :=
  .of_link rfl fun h => ⟨hfb h.fb, h.blink, h.layout, s.verInv_withCanvas cv h.ver (hver h.ver.canvas)⟩

/-- A task that is in phase where it is live keeps the blink invariant (R55). -/
theorem State.modTask_blinkInv (s : State) (line : Fin 4) (f : BlinkTask → BlinkTask)
    (hf : (f s.task[line.val]).live = true → (f s.task[line.val]).hide = s.blinkPhase) (h : s.blinkInv) :
    (s.modTask line f).blinkInv := by
  intro k
  simp only [State.modTask_task, State.modTask_blinkPhase, Vector.getElem_set]
  split
  · exact hf
  · exact h k

theorem State.killTask_keeps (s : State) (line : Fin 4) : s.Keeps (s.killTask line) :=
  .of_link rfl fun h => ⟨h.fb, s.modTask_blinkInv line _ nofun h.blink, h.layout, h.ver⟩

theorem State.updateTask_keeps (s : State) (line : Fin 4) (x : LineCtx) (isInternal : Bool) (r : Option BlinkRec)
    (hx : x.hide = s.blinkPhase) : s.Keeps (s.updateTask line x isInternal r) := by
  cases r with
  | none => exact s.killTask_keeps line
  | some r =>
    unfold State.updateTask
    dsimp only
    split
    · split
      · exact .refl s
      · exact s.killTask_keeps line
    · exact .of_link rfl fun h =>
        ⟨h.fb, s.modTask_blinkInv line (fun _ => blinkTaskOf x r) (fun _ => hx) h.blink, h.layout, h.ver⟩

theorem State.renderLine_keeps (s : State) (line : Fin 4) (content : Vector Byte 20) (isInternal : Bool) :
    s.Keeps (s.renderLine line content isInternal) :=
  (s.withCanvas_keeps _ (drawLine_wf _ _ _ s.canvas) (drawLine_verOk _ _ _ s.canvas)).trans
    (State.updateTask_keeps _ line _ isInternal _ rfl)

theorem State.putLine_keeps (s : State) (text : List Byte) (line : Nat) : s.Keeps (s.putLine text line).1 := by
  rcases s.putLine_cases text line with ⟨-, h⟩ | ⟨h4, -, h⟩
  · rw [h]; exact .refl s
  · rw [h]
    dsimp only
    unfold State.putLineAt
    split
    · exact .refl s
    · exact (Keeps.of_same (t := s.cacheLine _ _) rfl rfl).trans (State.renderLine_keeps _ _ _ _)

theorem State.putQr_keeps (s : State) (version offset : Nat) (contrast : Byte) :
    s.Keeps (s.putQr version offset contrast).1 := by
  unfold State.putQr
  split
  · exact .refl s
  · next hfit =>
    exact s.withCanvas_keeps _ (qrRows_wf _ _ _ (Nat.le_of_not_lt hfit) _ 0 s.canvas (Nat.le_refl _))
      (qrRows_verOk _ _ _ _ _ 0 s.canvas)

theorem State.fbClear_keeps (s : State) : s.Keeps s.fbClear := by
  refine .of_link s.fbClear_link fun h => ⟨s.fbClear_fbInv h.fb, fun line hlive => ?_, ?_, fun p => ?_⟩
  · simp [State.fbClear] at hlive
  · unfold State.layoutInv
    rw [State.fbClear_frame]
    exact h.layout
  · have hcfg : s.fbClear.cfg = s.cfg := by rw [State.fbClear_frame]
    have hsent : s.fbClear.sent = s.sent := by rw [State.fbClear_frame]
    simp only [hcfg, hsent]
    exact ⟨clearPages_verOk _ _ 0 s.canvas h.ver.canvas p, (h.ver p).2⟩

theorem State.runCall_keeps (s : State) (c : RenderCall) : s.Keeps (s.runCall c) := by
  cases c with
  | putLine text line => exact s.putLine_keeps text line
  | renderLine line content isInternal => exact s.renderLine_keeps line content isInternal
  | putQr version offset contrast => exact s.putQr_keeps version offset contrast
  | fbClear => exact s.fbClear_keeps

theorem State.runCalls_keeps (cs : List RenderCall) (s : State) : s.Keeps (cs.foldl State.runCall s) := by
  induction cs generalizing s with
  | nil => exact .refl s
  | cons c cs ih => exact (s.runCall_keeps c).trans (ih _)

theorem State.referenceDispatch_keeps (s : State) (id : Byte) (payload : List Byte) :
    s.Keeps (s.referenceDispatch id payload).1 := by
  unfold State.referenceDispatch
  split
  · exact .of_same rfl rfl
  · exact s.putLine_keeps _ _
  · exact .refl s
  · exact s.fbClear_keeps
  all_goals exact .refl s

theorem State.withReplies_keeps (s : State) (rs : List Reply) : s.Keeps { s with replies := rs } := .of_same rfl rfl

theorem State.dispatch_keeps (s : State) (id : Byte) (payload : List Byte) : s.Keeps (s.dispatch id payload).1 := by
  unfold State.dispatch
  refine (s.emit_keeps (.dispatch id payload)).trans ?_
  dsimp only
  split
  · exact (State.withReplies_keeps _ _).trans (State.runCalls_keeps _ _)
  · exact State.referenceDispatch_keeps _ id payload

/-! ### The tick (R240) -/

/-- A task after a tick. -/
def BlinkTask.ticked (t : BlinkTask) : BlinkTask := if t.live then { t with hide := !t.hide } else t

theorem BlinkTask.ticked_live (t : BlinkTask) : t.ticked.live = t.live := by
  unfold BlinkTask.ticked
  split <;> rfl

theorem BlinkTask.ticked_hide {t : BlinkTask} (h : t.live = true) : t.ticked.hide = !t.hide := by
  rw [BlinkTask.ticked, if_pos h]

/-- One line of the tick ticks that line's task. -/
theorem State.tickLine_task (s : State) (line k : Fin 4) :
    (s.tickLine line).task[k.val] = if k = line then s.task[k.val].ticked else s.task[k.val] := by
  unfold State.tickLine
  split
  · next hlive =>
    simp only [State.withCanvas_task, State.modTask_task, Vector.getElem_set, Fin.val_inj, eq_comm (a := line)]
    split
    · next h => subst h; exact (if_pos hlive).symm
    · rfl
  · next hlive =>
    split
    · next h => subst h; exact (if_neg hlive).symm
    · rfl

theorem State.blinkTick_task (s : State) (line : Fin 4) : s.blinkTick.task[line.val] = s.task[line.val].ticked := by
  unfold State.blinkTick
  simp only [State.tickLine_task]
  fin_cases line <;> rfl

/-- A tick turns the phase and every live task with it (R55). -/
theorem State.blinkTick_blinkInv (s : State) (h : s.blinkInv) : s.blinkTick.blinkInv := by
  intro line hlive
  have hphase : s.blinkTick.blinkPhase = !s.blinkPhase := by rw [State.blinkTick_frame]
  rw [State.blinkTick_task, BlinkTask.ticked_live] at hlive
  rw [State.blinkTick_task, BlinkTask.ticked_hide hlive, hphase, h line hlive]

theorem State.tickLine_verInv (s : State) (line : Fin 4) (h : s.verInv) : (s.tickLine line).verInv := by
  unfold State.tickLine
  split
  · exact State.verInv_withCanvas (s.modTask line _) _ h (stuffChar_verOk _ _ _ _ _ s.canvas h.canvas)
  · exact h

theorem State.blinkTick_keeps (s : State) : s.Keeps s.blinkTick := by
  refine .of_link s.blinkTick_link fun h => ⟨s.blinkTick_fbInv h.fb, s.blinkTick_blinkInv h.blink, ?_, ?_⟩
  · have := h.layout
    unfold State.layoutInv at this ⊢
    rw [State.blinkTick_frame]
    exact this
  · exact State.tickLine_verInv _ _ <| State.tickLine_verInv _ _ <| State.tickLine_verInv _ _ <|
      State.tickLine_verInv _ _ h.ver

/-! ### The drain (R256) -/

theorem State.drainColumn_sent (s : State) :
    s.drainColumn.1.sent = s.sent ∨ s.drainColumn.1.sent =
      s.sent.set s.drainPage.val s.ver[s.drainPage.val] s.drainPage.isLt := by
  unfold State.drainColumn
  dsimp only
  split
  · exact .inl rfl
  · exact .inr rfl

/-- A completed page's counter is copied to `sent`. -/
theorem State.drainColumn_keeps (s : State) : s.Keeps s.drainColumn.1 := by
  have hframe := s.drainColumn_frame
  refine .of_link (by rw [hframe]; simp only [State.link]) fun h => ?_
  have hver : s.drainColumn.1.verInv := by
    intro p
    have hcopy : s.drainColumn.1.ver = s.ver ∧ s.drainColumn.1.cfg = s.cfg := by
      rw [hframe]; exact ⟨rfl, rfl⟩
    rw [hcopy.2]
    simp only [hcopy.1]
    refine ⟨(h.ver p).1, ?_⟩
    rcases s.drainColumn_sent with e | e
    · simp only [e]; exact (h.ver p).2
    · simp only [e, Vector.getElem_set]
      split
      · exact (h.ver s.drainPage).1
      · exact (h.ver p).2
  have hrest : s.drainColumn.1.fbInv ∧ s.drainColumn.1.blinkInv ∧ s.drainColumn.1.layoutInv := by
    rw [hframe]; exact ⟨h.fb, h.blink, h.layout⟩
  exact ⟨hrest.1, hrest.2.1, hrest.2.2, hver⟩

theorem State.drainStep_keeps (s : State) : s.Keeps s.drainStep.1 := by
  rcases s.drainStep_cases with ⟨-, -, h⟩ | ⟨-, -, h⟩ | ⟨-, h⟩
  · rw [h]; exact .of_same rfl rfl
  · rw [h]
    refine .trans ?_ (State.drainColumn_keeps _)
    exact .of_same rfl rfl
  · rw [h]; exact s.drainColumn_keeps

/-! ### The request machine -/

theorem State.rxStx_keeps (s : State) : s.Keeps s.rxStx := by
  rcases s.rxStx_cases with ⟨-, h⟩ | ⟨-, h⟩
  · rw [h]; exact .of_same rfl rfl
  · rw [h]
    refine .of_display rfl fun j hs => ?_
    have hslot : s.opened.slot j = (s.clearSlot s.rxTarget).slot j := rfl
    change (s.opened.slot j).ok s.cfg
    rw [hslot, State.slot_clearSlot]
    split
    · exact Slot.cleared_ok _ _
    · exact hs j

theorem State.rxDispatch_keeps (s : State) : s.Keeps s.rxDispatch := by
  refine (s.dispatch_keeps s.rxSlot.cmd s.rxPayload).trans ?_
  refine .of_display rfl fun j hs => ?_
  unfold State.rxDispatch
  dsimp only
  rw [State.slot_modSlot]
  split
  · exact hs _
  · exact hs j

/-- Closing a frame with its slot armed. -/
theorem State.rxEtx_keeps (s : State) : s.Keeps s.rxEtx := by
  obtain ⟨u, -, h, hu⟩ := s.rxEtx_eq
  have hsu : s.Keeps u := by
    rcases hu with rfl | rfl
    · exact .refl _
    · exact s.rxDispatch_keeps
  rw [h]
  exact (hsu.trans (u.arm_keeps s.rxIdx)).trans (.of_same rfl rfl)

theorem State.rxByte_keeps (s : State) (b : Byte) : s.Keeps (s.rxByte b) := by
  rcases s.rxByte_outcomes b with ⟨-, -, -, h⟩ | ⟨-, -, h⟩ | ⟨-, h⟩ | ⟨-, h⟩
  · rw [h]; exact s.rxStx_keeps
  · rw [h]; exact s.rxEtx_keeps
  · rw [h]; exact .of_same rfl rfl
  · exact h.keeps

theorem State.rxRequest_keeps (s : State) (c : Cmd) (pn : Byte) (payload : List Byte) (crc : Half) :
    s.Keeps (s.rxRequest c pn payload crc) :=
  State.rxBytes_keeps (P := s.Keeps) (fun u b h => h.trans (u.rxByte_keeps b)) _ (.refl s)

theorem State.rxFieldDigit_keeps (s : State) (b : Byte) : s.Keeps (s.rxFieldDigit b) := by
  have hcrc : s.Keeps (s.rxCrc b) := (s.rxCrc_fills b).keeps (s.rxCrc_display b)
  unfold State.rxFieldDigit
  rcases s.rxFront_cases b with ⟨-, h⟩ | ⟨-, -, -, h⟩ | ⟨n, -, -, -, h⟩
  · rw [h]; exact s.errorPath_keeps
  · rw [h]; exact hcrc.trans (State.errorPath_keeps _)
  · rw [h]
    dsimp only
    split
    · exact (hcrc.trans ((State.rxNibble_fills _ n).keeps (State.rxNibble_display _ n))).trans (State.ret_keeps _ _)
    · exact hcrc.trans (State.ret_keeps _ _)

/-! ### Every instruction and every step -/

theorem State.putFormatted_keeps (s : State) (pos : Fin 8) (f line icon : Byte) (codes : Vector Byte 17) :
    s.Keeps (s.putFormatted pos f line icon codes) :=
  (s.putLine_keeps _ _).trans (State.ret_keeps _ _)

/-- `RESET` installs a layout the invariant says is legal; every other register is 0 or empty. -/
theorem State.doReset_keeps (s : State) : s.Keeps s.doReset := by
  refine ⟨fun hs => ?_, rfl⟩
  obtain ⟨hdisplay, -⟩ := s.inv_iff.mp hs
  refine s.doReset.inv_iff.mpr ⟨⟨rfl, fun line hlive => ?_, ⟨hdisplay.layout.2, hdisplay.layout.2⟩, fun p => ?_⟩, fun i => ?_⟩
  · have hnone : s.doReset.task[line.val] = BlinkTask.none := Vector.getElem_replicate line.isLt
    rw [hnone] at hlive
    cases hlive
  · have hver : s.doReset.ver[p.val] = 0 := Vector.getElem_replicate p.isLt
    have hsent : s.doReset.sent[p.val] = 0 := Vector.getElem_replicate p.isLt
    rw [hver, hsent]
    exact ⟨Nat.two_pow_pos _, Nat.two_pow_pos _⟩
  · rw [State.doReset_slot]
    exact Slot.cleared_ok _ _

/-- An instruction that completes in `u` keeps what `u` keeps. -/
theorem State.Keeps.of_next {s t u : State} (h : (.next u : Host.Outcome State Fault Refusal) = .next t) (hu : s.Keeps u) :
    s.Keeps t := Host.Outcome.next.inj h ▸ hu

theorem exec_keeps {i : Instr} {s t : State} (h : exec i s = .next t) : s.Keeps t := by
  cases i with
  | rdkeys | wrline | setbl | clrdsp | setlang | getver | buzparam | buzctrl => exact .of_next h (s.rxRequest_keeps _ _ _ _)
  | stx | etx | nul | digit0 | digit1 | digit2 | digit3 | digit4 | digit5 | digit6 | digit7 | digit8 | digit9 | digitA
  | digitB | digitC | digitD | digitE | digitF | rxByte => exact .of_next h (s.rxByte_keeps _)
  | csNoerr | csErr | crc16Update | crc16 | hex2nib | nib2hex | hex2 | hex4 | isStx | isEtx | validate | trim | tw =>
    exact .of_next h (s.ret_keeps _)
  | fmtInv | fmtAl | fmtAr | fmtBlink => exact .of_next h (s.putFormatted_keeps _ _ _ _ _)
  | ctrlData | pageSelect | columnAddress | displayOn => exact .of_next h (s.emit_keeps _)
  | reset => exact .of_next h s.doReset_keeps
  | txDone => exact .of_next h s.txDone_keeps
  | tick | blinkTick => exact .of_next h s.blinkTick_keeps
  | drainStep => exact .of_next h (s.drainStep_keeps.trans (State.ret_keeps _ _))
  | txPut => exact .of_next h (.of_same rfl rfl)
  | schedArm => exact .of_next h (.of_same rfl rfl)
  | dispatch id payload => exact .of_next h ((s.dispatch_keeps id payload).trans (State.ret_keeps _ _))
  | rxStx => exact .of_next h s.rxStx_keeps
  | rxNoise => exact .of_next h (.of_same rfl rfl)
  | rxEtx => exact .of_next h s.rxEtx_keeps
  | rxVpn n => exact .of_next h (s.rxVpn_ends n).keeps
  | rxVcmd n => exact .of_next h (s.rxVcmd_ends n).keeps
  | rxVpay n => exact .of_next h (s.rxVpay_ends n).keeps
  | rxVcrc n => exact .of_next h (s.rxVcrc_ends n).keeps
  | rxFieldDigit b => exact .of_next h (s.rxFieldDigit_keeps b)
  | rxFieldChoice => exact .of_next h s.rxFieldChoice_ends.keeps
  | rxErrorPath | rxDecodeError => exact .of_next h s.errorPath_keeps
  | arm i => exact .of_next h (s.arm_keeps i)
  | clearSlot i => exact .of_next h (s.clearSlot_keeps i)
  | txPump => exact .of_next h s.txPump_keeps
  | txNext => exact .of_next h (s.txNext_keeps.trans (State.ret_keeps _ _))
  | txFill i => exact .of_next h (.of_display rfl fun j hs => hs j)
  | writeBits value startBit width column =>
    exact .of_next h (s.withCanvas_keeps _ (writeBits_wf _ _ _ _ _ s.canvas) (writeBits_verOk _ _ _ _ _ s.canvas))
  | stuffChar row0 height inv hide code col colHi =>
    exact .of_next h ((s.withCanvas_keeps _ (stuffChar_wf _ _ _ _ _ s.canvas) (stuffChar_verOk _ _ _ _ _ s.canvas)).trans
      (State.ret_keeps _ _))
  | blankCol row0 height inv col =>
    exact .of_next h (s.withCanvas_keeps _ (blankCol_wf _ _ _ s.canvas) (blankCol_verOk _ _ _ s.canvas))
  | renderLine line content isInternal =>
    change execRenderLine line content isInternal s = .next t at h
    unfold execRenderLine at h
    split at h
    · exact .of_next h (s.renderLine_keeps _ _ _)
    · cases h
  | putLine text line => exact .of_next h ((s.putLine_keeps text line).trans (State.ret_keeps _ _))
  | putQr version offset contrast =>
    exact .of_next h ((s.putQr_keeps version offset contrast).trans (State.ret_keeps _ _))
  | fbClear => exact .of_next h s.fbClear_keeps

/-- The boot-time write installs a legal layout or is refused (R311). -/
theorem State.writeLayout_keeps {s t : State} {l : Vector LineLayout 4} (h : s.writeLayout l = .next t) : s.Keeps t := by
  unfold State.writeLayout at h
  split at h
  · split at h
    · next hlegal =>
      refine .of_next h (.of_link rfl fun hs => ⟨hs.fb, hs.blink, ⟨hlegal, hs.layout.2⟩, hs.ver⟩)
    · cases h
  · cases h

theorem State.withPending_keeps (s : State) (rest : List Input) (fresh : Bool) :
    s.Keeps { s with pending := rest, fresh := fresh } := .of_same rfl rfl

theorem step_keeps {s t : State} (h : step s = .next t) : s.Keeps t := by
  unfold step at h
  split at h
  · exact .of_next h (.refl s)
  · exact (s.withPending_keeps _ s.fresh).trans (State.writeLayout_keeps h)
  · split at h
    · exact (s.withPending_keeps _ false).trans (exec_keeps h)
    · cases h

/-- Settles O9, instruction by instruction; the boot-time layout is checked where it is written. -/
theorem everyStepKeepsTheInvariant : Obligations.EveryStepKeepsTheInvariant := by
  intro s t hs h
  obtain ⟨hinv, hcfg⟩ := step_keeps h
  exact ⟨hinv hs, hcfg⟩

end Sys2Proof.Machine

/-! The value rows, the port rows and the wire symbols (30_encoding.md R87 to R90, R100, R252): O44 and O24. -/

namespace Sys2Proof.Machine

/-! ### O44: the status byte's digits -/

/-- Without error the status nibble is 0 (R90). -/
theorem hex2_statusByte_noerr (cfg : Config) (id : Nibble) :
    hex2 (statusByte cfg false (id.zeroExtend 8)) = [0x30, nib2hex id] := by
  change hex2 (0 ||| id.zeroExtend 8) = _
  revert id
  decide

/-- With the error bit of D2 the status nibble is 8 (R90). -/
theorem hex2_statusByte_err {cfg : Config} (hmask : cfg.errMask = 0x80) (id : Nibble) :
    hex2 (statusByte cfg true (id.zeroExtend 8)) = [0x38, nib2hex id] := by
  change hex2 (cfg.errMask ||| id.zeroExtend 8) = _
  rw [hmask]
  revert id
  decide

theorem exec_csNoerr (s : State) (id : Nibble) :
    exec (.csNoerr id) s = .next (s.ret (.bytes (hex2 (statusByte s.cfg false (id.zeroExtend 8))))) := rfl

theorem exec_csErr (s : State) (id : Nibble) :
    exec (.csErr id) s = .next (s.ret (.bytes (hex2 (statusByte s.cfg true (id.zeroExtend 8))))) := rfl

/-- Settles O44: the digits of the status byte where it is spelled out, and the rows' own meanings elsewhere. -/
theorem valueRowsAndPorts : Obligations.ValueRowsAndPorts := by
  refine ⟨fun s id => ?noerr, fun s id hmask => ?err, fun s id => rfl, fun s b => rfl, fun s p => rfl, fun s c => rfl,
    fun s => rfl, fun s => rfl⟩
  case noerr => rw [exec_csNoerr, hex2_statusByte_noerr]; rfl
  case err => rw [exec_csErr, hex2_statusByte_err hmask]; rfl

/-! ### O24: the wire symbols -/

theorem exec_of_wireByte {i : Instr} {b : Byte} (h : i.wireByte = some b) (s : State) : exec i s = .next (s.rxByte b) := by
  cases i with
  | stx | etx | nul | digit0 | digit1 | digit2 | digit3 | digit4 | digit5 | digit6 | digit7 | digit8 | digit9 | digitA
  | digitB | digitC | digitD | digitE | digitF =>
    obtain rfl := Option.some.inj h
    rfl
  | _ => cases h

/-- A digit row's byte is its value's uppercase digit (R88, R117). -/
theorem wireByte_of_digitValue {i : Instr} {n : Nibble} (h : i.digitValue = some n) : i.wireByte = some (nib2hex n) := by
  cases i with
  | digit0 | digit1 | digit2 | digit3 | digit4 | digit5 | digit6 | digit7 | digit8 | digit9 | digitA | digitB | digitC
  | digitD | digitE | digitF =>
    obtain rfl := Option.some.inj h
    rfl
  | _ => cases h

/-- The codec reads back the digit it writes, whether it takes lowercase or not (R118). -/
theorem hex2nib_nib2hex (lower : Bool) (n : Nibble) : hex2nib lower (nib2hex n) = some n := by
  revert lower n
  decide

theorem nib2hex_ne_delimiter (n : Nibble) : nib2hex n ≠ STX ∧ nib2hex n ≠ ETX := by
  revert n
  decide

/-- A digit of an open field goes to the rule of the field, after the CRC accumulation (R126, R131). -/
theorem State.rxByte_nib2hex {s : State} (hf : s.rxState ≠ .vf) (n : Nibble) :
    s.rxByte (nib2hex n) = fieldRule s.rxState (s.rxCrc (nib2hex n)) n := by
  obtain ⟨hstx, hetx⟩ := nib2hex_ne_delimiter n
  have hn := hex2nib_nib2hex s.cfg.hexAcceptLower n
  rcases s.rxByte_cases (nib2hex n) with ⟨hvf, -⟩ | ⟨hvf, -⟩ | ⟨hvf, -⟩ | ⟨-, hd | hd, -⟩ | ⟨-, -, -, hnone, -⟩ |
    ⟨m, -, -, -, hm, h⟩
  · exact absurd hvf hf
  · exact absurd hvf hf
  · exact absurd hvf hf
  · exact absurd hd hstx
  · exact absurd hd hetx
  · rw [hn] at hnone; cases hnone
  · rw [hn] at hm
    rw [h, Option.some.inj hm]

theorem State.rxCrc_of_checksummed {s : State} (h : s.rxState.checksummed = true) (b : Byte) :
    s.rxCrc b = s.modSlot s.rxIdx fun sl => { sl with crcCalc := crc16Update sl.crcCalc b } := if_pos h

/-- The first digit of a packet number is kept as the high nibble (R132, R133). -/
theorem State.rxVpn_of_first {s : State} (h : s.nibCnt = 0) (n : Nibble) :
    s.rxVpn n = { s with acc := n.zeroExtend 8 <<< 4, nibCnt := 1 } := by
  rcases s.rxNibble_cases n with ⟨-, hr⟩ | ⟨hne, -⟩
  · unfold State.rxVpn
    rw [hr]
  · exact absurd h hne

theorem State.rxByte_first_of_packet_number {s : State} (hvpn : s.rxState = .vpn) (hnib : s.nibCnt = 0) (n : Nibble) :
    s.rxByte (nib2hex n) =
      { s.modSlot s.rxIdx fun sl => { sl with crcCalc := crc16Update sl.crcCalc (nib2hex n) } with
        acc := n.zeroExtend 8 <<< 4
        nibCnt := 1 } := by
  have hf : s.rxState ≠ .vf := by rw [hvpn]; decide
  have hcrc := s.rxCrc_of_checksummed (by rw [hvpn]; rfl) (nib2hex n)
  rw [s.rxByte_nib2hex hf, hvpn, hcrc]
  exact State.rxVpn_of_first (s := s.modSlot _ _) hnib n

/-- Settles O24: every symbol row is the event of its byte, and a digit row's byte is followed through the field rules. -/
theorem wireSymbolsAreReceived : Obligations.WireSymbolsAreReceived := by
  refine ⟨fun i b s hb => ⟨_, exec_of_wireByte hb s, rfl⟩, fun i n s hn hvpn hnib => ?_⟩
  have hb := wireByte_of_digitValue hn
  exact ⟨hb, by rw [exec_of_wireByte hb, State.rxByte_first_of_packet_number hvpn hnib]⟩

end Sys2Proof.Machine

/-! The format rows as calls of `PUT_LINE` (30_encoding.md R97, R98; 45_glyph_blitter.md R232, R233): O52. -/

namespace Sys2Proof.Machine

/-! ### The format byte and the padded text -/

/-- Setting a flag sets its bit and no other (R97). -/
theorem getLsbD_fmtWith (f : Byte) (pos k : Fin 8) :
    (fmtWith f pos).getLsbD k.val = (f.getLsbD k.val || decide (k = pos)) := by
  have hbit : ∀ pos k : Fin 8, ((1 <<< pos.val : Nat) : Byte).getLsbD k.val = decide (k = pos) := by decide
  unfold fmtWith
  rw [BitVec.getLsbD_or, hbit]

/-- What is overwritten stands between what comes before it and what comes after it. -/
theorem overwrite_toList {n : Nat} (bs : List Byte) (v : Vector Byte n) (k : Nat) (h : k + bs.length ≤ n) :
    (overwrite v k bs).toList = v.toList.take k ++ bs ++ v.toList.drop (k + bs.length) := by
  induction bs generalizing v k with
  | nil => simp [overwrite]
  | cons b bs ih =>
    rw [List.length_cons] at h
    have hk : k < v.toList.length := by rw [Vector.length_toList]; omega
    have hset : (v.setIfInBounds k b).toList = v.toList.set k b := by simp
    have hlen : k + (b :: bs).length = k + 1 + bs.length := by rw [List.length_cons]; omega
    have htake : (v.toList.set k b).take (k + 1) = v.toList.take k ++ [b] := by
      rw [List.take_add_one, List.take_set_of_le (Nat.le_refl k), List.getElem?_set_self hk]
      rfl
    rw [overwrite, ih _ _ (by omega), hset, hlen, htake, List.drop_set_of_lt (by omega)]
    simp

/-- A text of the whole budget is padded with one `0x00` (R98, R232). -/
theorem padLine_toList {text : List Byte} (h : text.length = LINE_BUDGET) : (padLine text).toList = text ++ [0] := by
  rw [LINE_BUDGET] at h
  unfold padLine
  rw [overwrite_toList text _ 0 (by omega), h]
  rfl

/-! ### `PUT_LINE` -/

/-- After an accepted call the line buffer holds the content, whether it did before or not (R232, R233). -/
theorem State.putLineAt_cached (s : State) (line : Fin 4) (content : Vector Byte 20) :
    (s.putLineAt line content).cacheValid[line.val] = true ∧ (s.putLineAt line content).linebuf[line.val] = content := by
  unfold State.putLineAt
  split
  · next hhit => exact ⟨hhit.1, hhit.2.symm⟩
  · rw [State.renderLine_frame]
    simp

/-- A text within the budget is accepted on every line of the display (R232). -/
theorem exec_putLine_of_line (s : State) {text : List Byte} (hlen : text.length ≤ LINE_BUDGET) (l : Fin 4) :
    exec (.putLine text l.val) s = .next ((s.putLineAt l (padLine text)).ret (.flag true)) := by
  change Host.Outcome.next ((s.putLine text l.val).1.ret (.flag (s.putLine text l.val).2)) = _
  rcases s.putLine_cases text l.val with ⟨hno | hno, -⟩ | ⟨_, -, hput⟩
  · exact absurd l.isLt (Nat.not_lt.mpr hno)
  · exact absurd hlen (Nat.not_le.mpr hno)
  · rw [hput]

/-- A line of 4 or more is rejected (R232). -/
theorem exec_putLine_of_no_line (s : State) (text : List Byte) {line : Nat} (h : 4 ≤ line) :
    exec (.putLine text line) s = .next (s.ret (.flag false)) := by
  change Host.Outcome.next ((s.putLine text line).1.ret (.flag (s.putLine text line).2)) = _
  rcases s.putLine_cases text line with ⟨-, hput⟩ | ⟨hline, -, -⟩
  · rw [hput]
  · exact absurd hline (Nat.not_lt.mpr h)

/-! ### The format rows -/

/-- A format row is a call of `PUT_LINE` (log 2). -/
theorem exec_of_format {i : Instr} {s : State} {pos : Fin 8} {f line icon : Byte} {codes : Vector Byte 17}
    (h : i.format s.cfg = some (pos, f, line, icon, codes)) :
    exec i s = exec (.putLine (icon :: fmtWith f pos :: codes.toList) line.toNat) s := by
  cases i with
  | fmtInv | fmtAl | fmtAr | fmtBlink =>
    cases h
    rfl
  | _ => cases h

/-- Settles O52: a format row's text has the length of the budget, so the line alone decides whether it is accepted. -/
theorem formatRowsPutALine : Obligations.FormatRowsPutALine := by
  intro i s pos f line icon codes h
  have hlen : (icon :: fmtWith f pos :: codes.toList).length = LINE_BUDGET := by simp [LINE_BUDGET]
  have hexec := exec_of_format h
  refine ⟨fmtWith f pos, fun k => getLsbD_fmtWith f pos k, hexec, fun l hl => ?accepted, fun h4 => ?rejected⟩
  case accepted =>
    rw [hl, exec_putLine_of_line s hlen.le l] at hexec
    obtain ⟨hvalid, hbuf⟩ := s.putLineAt_cached l (padLine (icon :: fmtWith f pos :: codes.toList))
    refine ⟨_, hexec, List.getLast?_concat, hvalid, ?_⟩
    rw [State.ret_linebuf, hbuf, padLine_toList hlen]
    rfl
  case rejected => exact hexec.trans (exec_putLine_of_no_line s _ h4)

end Sys2Proof.Machine

/-! Which bytes of a line's content drawing reads, and which bits of its format byte (30_encoding.md R97; R222 to R228):
O54. -/

namespace Sys2Proof.Machine

/-! ### The content with another format byte -/

theorem icon_set_format (content : Vector Byte 20) (f : Byte) :
    (content.set 1 f)[0] = content[0] ∧ (content.set 1 f)[19] = content[19] := by simp

theorem lineText_set_format (content : Vector Byte 20) (f : Byte) : lineText (content.set 1 f) = lineText content := by
  unfold lineText
  rw [Vector.toList_set, List.drop_set_of_lt (by omega)]

/-- `AR` is read only where `AL` is 0 (R97, R225). -/
theorem startCol_congr {cfg : Config} {f f' : Byte} (hal : fmtFlag f cfg.fmtAl = fmtFlag f' cfg.fmtAl)
    (har : fmtFlag f cfg.fmtAl = false → fmtFlag f cfg.fmtAr = fmtFlag f' cfg.fmtAr) (lo hi w : Nat) :
    startCol cfg f lo hi w = startCol cfg f' lo hi w := by
  unfold startCol
  cases h : fmtFlag f cfg.fmtAl with
  | true => rw [← hal, h]; rfl
  | false => rw [← hal, h, har h]

/-- Beside the context of its line, drawing reads of the format byte no more than the alignment (R228). -/
theorem drawLine_set_format {cfg : Config} {content : Vector Byte 20} {f : Byte}
    (hal : fmtFlag f cfg.fmtAl = fmtFlag content[1] cfg.fmtAl)
    (har : fmtFlag f cfg.fmtAl = false → fmtFlag f cfg.fmtAr = fmtFlag content[1] cfg.fmtAr) (x : LineCtx) (cv : Canvas) :
    drawLine cfg x (content.set 1 f) cv = drawLine cfg x content cv := by
  obtain ⟨hleft, hright⟩ := icon_set_format content f
  have hfmt : (content.set 1 f)[1] = f := by simp
  unfold drawLine
  rw [hleft, hright, hfmt, lineText_set_format]
  simp only [startCol_congr hal har]

/-- The context of a line takes the inversion of the format byte and no more (R222). -/
theorem State.lineCtx_congr (s : State) (line : Fin 4) {f f' : Byte}
    (hinv : fmtFlag f s.cfg.fmtInv = fmtFlag f' s.cfg.fmtInv) : s.lineCtx line f = s.lineCtx line f' := by
  unfold State.lineCtx inversionMask
  rw [hinv]

/-! ### A line rendered -/

theorem exec_renderLine (s : State) (line : Fin 4) (content : Vector Byte 20) (isInternal : Bool) :
    exec (.renderLine line.val content isInternal) s = .next (s.renderLine line content isInternal) :=
  dif_pos line.isLt

theorem State.renderLine_set_format {s : State} {content : Vector Byte 20} {f : Byte}
    (hinv : fmtFlag f s.cfg.fmtInv = fmtFlag content[1] s.cfg.fmtInv)
    (hal : fmtFlag f s.cfg.fmtAl = fmtFlag content[1] s.cfg.fmtAl)
    (har : fmtFlag f s.cfg.fmtAl = false → fmtFlag f s.cfg.fmtAr = fmtFlag content[1] s.cfg.fmtAr) (line : Fin 4)
    (isInternal : Bool) : s.renderLine line (content.set 1 f) isInternal = s.renderLine line content isInternal := by
  have hfmt : (content.set 1 f)[1] = f := by simp
  unfold State.renderLine
  rw [hfmt, s.lineCtx_congr line hinv]
  simp only [drawLine_set_format hal har]

/-- Settles O54: of the format byte the context reads `INV`, and the drawing the alignment. -/
theorem onlyThreeFlagsMatter : Obligations.OnlyThreeFlagsMatter := fun s line content _ isInternal hinv hal har =>
  ⟨s.renderLine line content isInternal, exec_renderLine s line content isInternal,
    (exec_renderLine s line _ isInternal).trans (congrArg _ (State.renderLine_set_format hinv hal har line isInternal))⟩

end Sys2Proof.Machine

/-! `WRITE_BITS` pixel by pixel (44_framebuffer.md R201, R203): each turn of its loop fills in its part of one page byte. -/

namespace Sys2Proof.Machine

/-! ### One byte -/

theorem getLsbD_fieldMask (n o : Nat) {k : Nat} (hk : k < 8) :
    (fieldMask n o).getLsbD k = decide (o ≤ k ∧ k < o + n) := by
  unfold fieldMask
  rw [BitVec.getLsbD_ofNat, Nat.testBit_shiftLeft, Nat.testBit_two_pow_sub_one, Bool.eq_iff_iff]
  simp only [Bool.and_eq_true, decide_eq_true_eq]
  omega

/-- The merged byte has the new bits in its field and the old ones outside (R70). -/
theorem getLsbD_mergeField (old : Byte) (n o bits : Nat) {k : Nat} (hk : k < 8) :
    (mergeField old (fieldMask n o) bits).getLsbD k = if o ≤ k ∧ k < o + n then bits.testBit k else old.getLsbD k := by
  unfold mergeField
  rw [BitVec.getLsbD_or, BitVec.getLsbD_and, BitVec.getLsbD_and, BitVec.getLsbD_not, BitVec.getLsbD_ofNat,
    getLsbD_fieldMask n o hk]
  split
  · next h => simp [h, hk]
  · next h => simp [h, hk]

/-- A byte written is eight pixels of its column; every other pixel stands (R62). -/
theorem pixel_memWrite {m : Memory} (hm : m.wf = true) {p col c : Nat} (hcol : col < N_COLS) (hc : c < N_COLS) (b : Byte)
    (r : Nat) : pixel (memWrite m p col b) r c = if r / 8 = p ∧ c = col then b.getLsbD (r % 8) else pixel m r c := by
  unfold pixel
  rw [memRead_memWrite hm hcol hc]
  split <;> rfl

/-- One turn of the loop of R201: at most the rest of the page from row `g` on. -/
theorem pixel_write_mergeField {m : Memory} (hm : m.wf = true) {col c : Nat} (hcol : col < N_COLS) (hc : c < N_COLS)
    (v : Nat) {g n : Nat} (hn : g % 8 + n ≤ 8) (r : Nat) :
    pixel (memWrite m (g / 8) col (mergeField (memRead m (g / 8) col) (fieldMask n (g % 8)) (v <<< (g % 8)))) r c =
      if c = col ∧ g ≤ r ∧ r < g + n then v.testBit (r - g) else pixel m r c := by
  rw [pixel_memWrite hm hcol hc, getLsbD_mergeField _ _ _ _ (Nat.mod_lt r (by omega)), Nat.testBit_shiftLeft]
  by_cases hbyte : r / 8 = g / 8 ∧ c = col
  · obtain ⟨hpage, rfl⟩ := hbyte
    rw [if_pos ⟨hpage, rfl⟩]
    by_cases hfield : g % 8 ≤ r % 8 ∧ r % 8 < g % 8 + n
    · have hbit : r % 8 - g % 8 = r - g := by omega
      rw [if_pos hfield, if_pos ⟨rfl, by omega, by omega⟩, hbit]
      simp [hfield.1]
    · rw [if_neg hfield, if_neg (by omega), ← hpage]
      rfl
  · rw [if_neg hbyte, if_neg (by omega)]

/-! ### The loop -/

/-- Six turns are enough from any row: a turn ends the write or reaches the next page. -/
theorem pixel_writeBitsLoop (vb : Nat) {col c r : Nat} (hcol : col < N_COLS) (hc : c < N_COLS) (hr : r < FB_ROWS)
    (fuel v g rem : Nat) (cv : Canvas) (hwf : cv.fb.wf = true) (hfuel : rem = 0 ∨ N_PAGES ≤ g / 8 + fuel) :
    pixel (writeBitsLoop vb col fuel v g rem cv).fb r c =
      if c = col ∧ g ≤ r ∧ r < g + rem then v.testBit (r - g) else pixel cv.fb r c := by
  simp only [FB_ROWS, N_PAGES] at hr hfuel
  induction fuel generalizing v g rem cv with
  | zero =>
    rw [writeBitsLoop, if_neg (by omega)]
  | succ fuel ih =>
    rw [writeBitsLoop]
    by_cases hgo : 0 < rem ∧ g < FB_ROWS
    · obtain ⟨hrem, hg⟩ := hgo
      rw [if_pos ⟨hrem, hg⟩]
      simp only [FB_ROWS] at hg
      have hn : g % 8 + min rem (8 - g % 8) ≤ 8 := by omega
      have hpage : g / 8 < N_PAGES := by rw [N_PAGES]; omega
      rw [ih _ _ _ _ (memWrite_wf hwf hpage hcol _) (by omega)]
      by_cases hrest : c = col ∧ g + min rem (8 - g % 8) ≤ r ∧ r < g + rem
      · have hbit : min rem (8 - g % 8) + (r - (g + min rem (8 - g % 8))) = r - g := by omega
        rw [if_pos (by omega), if_pos (by omega), Nat.testBit_shiftRight, hbit]
      · rw [if_neg (by omega)]
        refine (pixel_write_mergeField hwf hcol hc v hn r).trans (if_congr ?_ rfl rfl)
        omega
    · rw [if_neg hgo, if_neg (by simp only [FB_ROWS] at hgo; omega)]

/-- The pixels `WRITE_BITS` sets, and every other as it was (R201, R203). -/
theorem pixel_writeBits (vb v start width : Nat) {col c r : Nat} (hc : c < N_COLS) (hr : r < FB_ROWS) {cv : Canvas}
    (hwf : cv.fb.wf = true) :
    pixel (writeBits vb v start width col cv).fb r c =
      if c = col ∧ start ≤ r ∧ r < start + width then v.testBit (r - start) else pixel cv.fb r c := by
  unfold writeBits
  split
  · next hout => rw [if_neg (by omega)]
  · next hcol => exact pixel_writeBitsLoop vb (Nat.not_le.mp hcol) hc hr _ _ _ _ _ hwf (.inr (Nat.le_add_left _ _))

end Sys2Proof.Machine

/-! The `INV` flag (30_encoding.md R97, R222): a line drawn twice, the second time with the inversion mask complemented,
shows the complement wherever it was drawn, and drawing covers every column of the line: O53. -/

namespace Sys2Proof.Machine

/-! ### Widths and places -/

theorem trimGlyph_snd_le (cfg : Config) (code : Byte) : (trimGlyph cfg code).2 ≤ (glyph cfg code).width := by
  unfold trimGlyph
  dsimp only
  split
  · split
    · next hr =>
      have hmem := List.mem_of_find?_eq_some hr
      rw [List.mem_reverse, List.mem_range] at hmem
      exact hmem
    · exact Nat.zero_le _
  · exact Nat.le_refl _

/-- Under legal glyphs no glyph takes more than 32 columns (R53, R217). -/
theorem trimmedWidth_le {cfg : Config} (hcfg : glyphsLegal cfg = true) (code : Byte) : trimmedWidth cfg code ≤ 32 := by
  have hwidth : (glyph cfg code).width ≤ 32 := by
    unfold glyphsLegal at hcfg
    rw [List.all_eq_true] at hcfg
    exact of_decide_eq_true (hcfg _ (Vector.mem_toList_iff.mpr (Vector.getElem_mem _)))
  have htrim := trimGlyph_snd_le cfg code
  unfold trimmedWidth
  omega

theorem textCost_cons (cfg : Config) (t : Byte) (ts : List Byte) :
    textCost cfg (t :: ts) = 1 + trimmedWidth cfg t + textCost cfg ts := rfl

/-- What fits takes the width it is said to take, and fits (R225). -/
theorem fitText_spec (cfg : Config) (avail : Nat) (ts : List Byte) {w : Nat} (hw : w ≤ avail) :
    (fitText cfg avail ts w).1 = w + textCost cfg (fitText cfg avail ts w).2 ∧ (fitText cfg avail ts w).1 ≤ avail := by
  induction ts generalizing w with
  | nil => exact ⟨rfl, hw⟩
  | cons t ts ih =>
    rw [fitText]
    split
    · next hfit =>
      obtain ⟨hcost, hle⟩ := ih hfit
      refine ⟨?_, hle⟩
      dsimp only
      rw [hcost, textCost_cons]
      omega
    · exact ⟨rfl, hw⟩

theorem drawText_col (cfg : Config) (x : LineCtx) (hi : Nat) (ts : List Byte) (d : Drawn) :
    (drawText cfg x hi ts d).col = d.col + textCost cfg ts := by
  induction ts generalizing d with
  | nil => rfl
  | cons t ts ih =>
    rw [drawText, ih, textCost_cons]
    dsimp only
    omega

/-- `col_hi`: the first column of the right icon's gap, or the end of the line (R224). -/
def textEnd (cfg : Config) (code : Byte) : Nat := if isIcon code then N_COLS - trimmedWidth cfg code - GAP else N_COLS

theorem drawRight_col (cfg : Config) (x : LineCtx) (code : Byte) (d : Drawn) :
    (drawRight cfg x code d).col = textEnd cfg code := by
  unfold drawRight textEnd
  split <;> rfl

/-- The text stands between the icons wherever it is aligned (R225). -/
theorem startCol_bounds (cfg : Config) (f : Byte) {lo hi w : Nat} (h : lo + w ≤ hi) :
    lo ≤ startCol cfg f lo hi w ∧ startCol cfg f lo hi w + w ≤ hi := by
  unfold startCol
  split
  · omega
  · split <;> omega

/-- The width and the glyphs of a content's text that fit between its icons (R225). -/
def fitted (cfg : Config) (content : Vector Byte 20) : Nat × List Byte :=
  fitText cfg (textEnd cfg content[19] - trimmedWidth cfg content[0]) (lineText content) 0

/-- The column the text of a content starts at (R225). -/
def textStart (cfg : Config) (content : Vector Byte 20) : Nat :=
  startCol cfg content[1] (trimmedWidth cfg content[0]) (textEnd cfg content[19]) (fitted cfg content).1

/-- The drawing of R228 with its columns: left icon, right icon and gap, pre-fill, text, padding. -/
theorem drawLine_fst (cfg : Config) (x : LineCtx) (content : Vector Byte 20) (cv : Canvas) :
    let right := drawRight cfg x content[19]
      { cv := stuffChar cfg x content[0] 0 N_COLS cv
        col := trimmedWidth cfg content[0]
        blink := noteBlink cfg content[0] 0 N_COLS none }
    let filled := blankCols cfg x (textStart cfg content - trimmedWidth cfg content[0]) (trimmedWidth cfg content[0])
      right.cv
    let text := drawText cfg x (textEnd cfg content[19]) (fitted cfg content).2
      { cv := filled, col := textStart cfg content, blink := right.blink }
    let stop := textStart cfg content + textCost cfg (fitted cfg content).2
    (drawLine cfg x content cv).1 = blankCols cfg x (textEnd cfg content[19] - stop) stop text.cv := by
  unfold drawLine
  simp only [drawRight_col, drawText_col]
  rfl

/-- The icons leave room between them (R223, R224). -/
theorem textEnd_bounds {cfg : Config} (hcfg : glyphsLegal cfg = true) (left right : Byte) :
    trimmedWidth cfg left ≤ textEnd cfg right ∧ textEnd cfg right ≤ N_COLS := by
  have hleft := trimmedWidth_le hcfg left
  have hright := trimmedWidth_le hcfg right
  unfold textEnd
  simp only [N_COLS, GAP]
  split <;> omega

theorem textStart_bounds {cfg : Config} (hcfg : glyphsLegal cfg = true) (content : Vector Byte 20) :
    trimmedWidth cfg content[0] ≤ textStart cfg content ∧
      textStart cfg content + textCost cfg (fitted cfg content).2 ≤ textEnd cfg content[19] := by
  obtain ⟨hcost, hfit⟩ := fitText_spec cfg (textEnd cfg content[19] - trimmedWidth cfg content[0]) (lineText content)
    (Nat.zero_le _)
  obtain ⟨hroom, -⟩ := textEnd_bounds hcfg content[0] content[19]
  have hwidth : (fitted cfg content).1 = textCost cfg (fitted cfg content).2 := hcost.trans (Nat.zero_add _)
  rw [← hwidth]
  exact startCol_bounds cfg content[1] (Nat.add_le_of_le_sub' hroom hfit)

/-! ### The inverted context -/

/-- The context with its inversion mask complemented (R222). -/
def LineCtx.inverted (x : LineCtx) : LineCtx := { x with inv := x.inv ^^^ (2 ^ x.h - 1) }

theorem LineCtx.testBit_inverted (x : LineCtx) {i : Nat} (hi : i < x.h) :
    x.inverted.inv.testBit i = !x.inv.testBit i := by
  unfold LineCtx.inverted
  rw [Nat.testBit_xor, Nat.testBit_two_pow_sub_one, decide_eq_true hi, Bool.xor_true]

/-- Setting `INV` in a format byte without it complements the mask of the line (R222). -/
theorem State.lineCtx_fmtWith_inv (s : State) (line : Fin 4) {f : Byte} (hinv : fmtFlag f s.cfg.fmtInv = false) :
    s.lineCtx line (fmtWith f s.cfg.fmtInv) = (s.lineCtx line f).inverted := by
  have hset : fmtFlag (fmtWith f s.cfg.fmtInv) s.cfg.fmtInv = true := by
    unfold fmtFlag
    rw [getLsbD_fmtWith, decide_eq_true rfl, Bool.or_true]
  unfold State.lineCtx LineCtx.inverted inversionMask
  rw [hset, hinv]
  simp

/-- Setting `INV` leaves the flags at other positions (R97). -/
theorem fmtFlag_fmtWith_of_ne (f : Byte) {pos k : Fin 8} (h : pos ≠ k) : fmtFlag (fmtWith f pos) k = fmtFlag f k := by
  unfold fmtFlag
  rw [getLsbD_fmtWith, decide_eq_false h.symm, Bool.or_false]

/-! ### Complementary canvases -/

/-- On the columns `cols` of the rows `row0` to `row0 + h - 1` each pixel of `b` is the complement of that of `a`. -/
structure Canvas.Complements (row0 h : Nat) (cols : Set Nat) (a b : Canvas) : Prop where
  wf_left : a.fb.wf = true
  wf_right : b.fb.wf = true
  pixel_eq : ∀ {g c : Nat}, g < FB_ROWS → c < N_COLS → row0 ≤ g → g < row0 + h → c ∈ cols →
    pixel b.fb g c = !pixel a.fb g c

namespace Canvas.Complements

section

variable {row0 h : Nat} {cols : Set Nat} {a b : Canvas}

theorem of_wf {cv : Canvas} (hwf : cv.fb.wf = true) : Complements row0 h ∅ cv cv :=
  ⟨hwf, hwf, fun _ _ _ _ hc => hc.elim⟩

/-- Two adjacent runs of columns are one. -/
theorem join {lo mid hi : Nat} (hab : Complements row0 h (cols ∪ Set.Ico lo mid ∪ Set.Ico mid hi) a b) (h1 : lo ≤ mid)
    (h2 : mid ≤ hi) : Complements row0 h (cols ∪ Set.Ico lo hi) a b := by
  rwa [Set.union_assoc, Set.Ico_union_Ico_eq_Ico h1 h2] at hab

/-- The parts of a line in drawing order: left icon, right icon, pre-fill, text, padding. -/
theorem whole_line {lo start stop hi : Nat}
    (hab : Complements row0 h (∅ ∪ Set.Ico 0 lo ∪ Set.Ico hi N_COLS ∪ Set.Ico lo start ∪ Set.Ico start stop ∪
      Set.Ico stop hi) a b) (hstart : lo ≤ start) (htext : start ≤ stop) (hstop : stop ≤ hi) (hend : hi ≤ N_COLS) :
    Complements row0 h (Set.Ico 0 N_COLS) a b := by
  have hroom : lo ≤ hi := hstart.trans (htext.trans hstop)
  have hmiddle := (hab.join htext hstop).join hstart (htext.trans hstop)
  rw [Set.union_right_comm] at hmiddle
  have hline := (hmiddle.join hroom hend).join (Nat.zero_le lo) (hroom.trans hend)
  rwa [Set.empty_union] at hline

/-- Complementary bits written to a column make it complementary, whatever stood there. -/
theorem writeBits (hab : Complements row0 h cols a b) (vb col : Nat) {v w : Nat}
    (hbits : ∀ i < h, w.testBit i = !v.testBit i) :
    Complements row0 h (cols ∪ Set.Ico col (col + 1)) (Machine.writeBits vb v row0 h col a)
      (Machine.writeBits vb w row0 h col b) := by
  refine ⟨writeBits_wf _ _ _ _ _ a hab.wf_left, writeBits_wf _ _ _ _ _ b hab.wf_right,
    fun {g c} hg hc hlo hhi hmem => ?_⟩
  rw [pixel_writeBits vb w row0 h hc hg hab.wf_right, pixel_writeBits vb v row0 h hc hg hab.wf_left]
  by_cases hcol : c = col
  · rw [if_pos ⟨hcol, hlo, hhi⟩, if_pos ⟨hcol, hlo, hhi⟩]
    exact hbits _ (by omega)
  · rw [if_neg fun hand => hcol hand.1, if_neg fun hand => hcol hand.1]
    refine hab.pixel_eq hg hc hlo hhi (hmem.resolve_right fun hIco => hcol ?_)
    obtain ⟨hge, hlt⟩ := Set.mem_Ico.mp hIco
    omega

end

section

variable {x : LineCtx} {cols : Set Nat} {a b : Canvas} (cfg : Config)

theorem blankCol (hab : Complements x.row0 x.h cols a b) (col : Nat) :
    Complements x.row0 x.h (cols ∪ Set.Ico col (col + 1)) (Machine.blankCol cfg x col a)
      (Machine.blankCol cfg x.inverted col b) :=
  hab.writeBits cfg.verBits col fun _ => x.testBit_inverted

theorem blankCols (hab : Complements x.row0 x.h cols a b) {n col hi : Nat} (hhi : col + n = hi) :
    Complements x.row0 x.h (cols ∪ Set.Ico col hi) (Machine.blankCols cfg x n col a)
      (Machine.blankCols cfg x.inverted n col b) := by
  induction n generalizing cols col a b with
  | zero =>
    obtain rfl : col = hi := hhi
    rwa [Set.Ico_self, Set.union_empty]
  | succ n ih => exact (ih (hab.blankCol cfg col) (by omega)).join (by omega) (by omega)

theorem blitCols (hab : Complements x.row0 x.h cols a b) (code : Byte) (j : Nat) {n col hi : Nat} (hhi : col + n = hi) :
    Complements x.row0 x.h (cols ∪ Set.Ico col hi) (Machine.blitCols cfg x code n j col a)
      (Machine.blitCols cfg x.inverted code n j col b) := by
  induction n generalizing cols col j a b with
  | zero =>
    obtain rfl : col = hi := hhi
    rwa [Set.Ico_self, Set.union_empty]
  | succ n ih =>
    have hbits (i : Nat) (hi : i < x.h) : (glyphBits cfg x.inverted code j ^^^ x.inverted.inv).testBit i =
        !(glyphBits cfg x code j ^^^ x.inv).testBit i := by
      rw [Nat.testBit_xor, Nat.testBit_xor, x.testBit_inverted hi, Bool.xor_not]
      rfl
    exact (ih (hab.writeBits cfg.verBits col hbits) (j + 1) (by omega)).join (by omega) (by omega)

/-- A glyph that fits makes its columns complementary (R218). -/
theorem stuffChar (hab : Complements x.row0 x.h cols a b) (code : Byte) {col colHi hi : Nat}
    (hhi : col + trimmedWidth cfg code = hi) (hfit : hi ≤ colHi) :
    Complements x.row0 x.h (cols ∪ Set.Ico col hi) (Machine.stuffChar cfg x code col colHi a)
      (Machine.stuffChar cfg x.inverted code col colHi b) := by
  have hdrawn : ¬colHi < col + trimmedWidth cfg code := by omega
  unfold Machine.stuffChar
  rw [if_neg hdrawn, if_neg hdrawn]
  exact hab.blitCols cfg code _ hhi

theorem drawText (hab : Complements x.row0 x.h cols a b) {ts : List Byte} {col colHi hi : Nat}
    (hhi : col + textCost cfg ts = hi) (hfit : hi ≤ colHi) (r r' : Option BlinkRec) :
    Complements x.row0 x.h (cols ∪ Set.Ico col hi) (Machine.drawText cfg x colHi ts { cv := a, col, blink := r }).cv
      (Machine.drawText cfg x.inverted colHi ts { cv := b, col, blink := r' }).cv := by
  induction ts generalizing cols col a b r r' with
  | nil =>
    obtain rfl : col = hi := hhi
    rwa [Set.Ico_self, Set.union_empty]
  | cons t ts ih =>
    rw [textCost_cons] at hhi
    have hglyph := (hab.blankCol cfg col).stuffChar cfg t (col := col + 1) (colHi := colHi) rfl (by omega)
    exact (ih (hglyph.join (by omega) (by omega)) (by omega) _ _).join (by omega) (by omega)

/-- The right icon and its gap, or nothing, from `col_hi` on (R224). -/
theorem drawRight (hcfg : glyphsLegal cfg = true) (hab : Complements x.row0 x.h cols a b) (code : Byte) (col : Nat)
    (r r' : Option BlinkRec) :
    Complements x.row0 x.h (cols ∪ Set.Ico (textEnd cfg code) N_COLS)
      (Machine.drawRight cfg x code { cv := a, col, blink := r }).cv
      (Machine.drawRight cfg x.inverted code { cv := b, col, blink := r' }).cv := by
  have hwidth := trimmedWidth_le hcfg code
  unfold Machine.drawRight textEnd
  split
  · have hicon := hab.stuffChar cfg code (col := N_COLS - trimmedWidth cfg code) (hi := N_COLS) (colHi := N_COLS)
      (by rw [N_COLS]; omega) (Nat.le_refl _)
    have hgap := hicon.blankCols cfg (n := GAP) (col := N_COLS - trimmedWidth cfg code - GAP)
      (hi := N_COLS - trimmedWidth cfg code) (by rw [N_COLS, GAP]; omega)
    rw [Set.union_right_comm] at hgap
    exact hgap.join (by omega) (by omega)
  · rwa [Set.Ico_self, Set.union_empty]

/-- Icons, text and blanks leave out no column of the line (R228). -/
theorem drawLine (hcfg : glyphsLegal cfg = true) (x : LineCtx) (content : Vector Byte 20) {cv : Canvas}
    (hwf : cv.fb.wf = true) :
    Complements x.row0 x.h (Set.Ico 0 N_COLS) (Machine.drawLine cfg x content cv).1
      (Machine.drawLine cfg x.inverted content cv).1 := by
  obtain ⟨hroom, hend⟩ := textEnd_bounds hcfg content[0] content[19]
  obtain ⟨hstart, hstop⟩ := textStart_bounds hcfg content
  rw [drawLine_fst, drawLine_fst]
  have hleft := (of_wf (row0 := x.row0) (h := x.h) hwf).stuffChar cfg content[0] (Nat.zero_add _) (hroom.trans hend)
  have hright := hleft.drawRight cfg hcfg content[19] (trimmedWidth cfg content[0])
    (noteBlink cfg content[0] 0 N_COLS none) (noteBlink cfg content[0] 0 N_COLS none)
  have hfill := hright.blankCols cfg (Nat.add_sub_cancel' hstart)
  exact ((hfill.drawText cfg rfl hstop _ _).blankCols cfg (Nat.add_sub_cancel' hstop)).whole_line hstart
    (Nat.le_add_right _ _) hstop hend

end

end Canvas.Complements

/-! ### A line rendered -/

theorem State.renderLine_fb (s : State) (line : Fin 4) (content : Vector Byte 20) (isInternal : Bool) :
    (s.renderLine line content isInternal).fb =
      (drawLine s.cfg (s.lineCtx line content[1]) content s.canvas).1.fb := by
  unfold State.renderLine
  dsimp only
  rw [State.updateTask_frame]
  rfl

/-- Setting `INV` in a content without it inverts the context of the drawing and leaves all else of it. -/
theorem State.renderLine_fmtWith_inv_fb {s : State} {content : Vector Byte 20}
    (hal : s.cfg.fmtInv ≠ s.cfg.fmtAl) (har : s.cfg.fmtInv ≠ s.cfg.fmtAr)
    (hinv : fmtFlag content[1] s.cfg.fmtInv = false) (line : Fin 4) (isInternal : Bool) :
    (s.renderLine line (content.set 1 (fmtWith content[1] s.cfg.fmtInv)) isInternal).fb =
      (drawLine s.cfg (s.lineCtx line content[1]).inverted content s.canvas).1.fb := by
  have hfmt : (content.set 1 (fmtWith content[1] s.cfg.fmtInv))[1] = fmtWith content[1] s.cfg.fmtInv := by simp
  rw [State.renderLine_fb, hfmt, s.lineCtx_fmtWith_inv line hinv,
    drawLine_set_format (fmtFlag_fmtWith_of_ne _ hal) fun _ => fmtFlag_fmtWith_of_ne _ har]

/-- Settles O53: both renders draw in every column of the line, with complementary bits. -/
theorem inversionComplementsTheLine : Obligations.InversionComplementsTheLine := by
  intro s line content isInternal hfb _ hglyphs hal har hinv
  refine ⟨_, _, exec_renderLine s line _ isInternal, exec_renderLine s line _ isInternal, fun g c hg hc hrow => ?_⟩
  obtain ⟨hlo, hhi⟩ := hrow
  rw [State.renderLine_fmtWith_inv_fb hal har hinv, State.renderLine_fb]
  have hline := Canvas.Complements.drawLine s.cfg hglyphs (s.lineCtx line content[1]) content (cv := s.canvas) hfb
  exact hline.pixel_eq hg hc hlo hhi (Set.mem_Ico.mpr ⟨Nat.zero_le c, hc⟩)

end Sys2Proof.Machine

/-! The pure operations (40_crc_and_nibble_codec.md; R161, R216, R217): O16. -/

namespace Sys2Proof.Machine

/-- A pure operation hands its result to the caller and is done. -/
theorem exec_of_pureResult {i : Instr} {s : State} {v : Ret} (h : i.pureResult s.cfg = some v) :
    exec i s = .next (s.ret v) := by
  cases i with
  | crc16Update | crc16 | hex2nib | nib2hex | hex2 | hex4 | isStx | isEtx | validate | trim | tw =>
    obtain rfl := Option.some.inj h
    rfl
  | _ => cases h

/-- Settles O16: handing over a result appends it to the output. -/
theorem pureOperationsReturnTheirResult : Obligations.PureOperationsReturnTheirResult :=
  fun _ _ _ h => exec_of_pureResult h

end Sys2Proof.Machine

/-! The CRC unit (40_crc_and_nibble_codec.md R110 to R115). A step of the bitwise rule is linear over `^^^` and sends only 0
to 0; the table form (O17) and the bijection (O19) both follow from that. -/

namespace Sys2Proof.Machine

/-! ### The steps of the bitwise rule -/

/-- The polynomial is added where a 1 is shifted out. -/
theorem crcStep_eq_xor (c : Half) : crcStep c = (c >>> 1) ^^^ bif c.getLsbD 0 then CRC_POLY else 0 := by
  unfold crcStep
  cases c.getLsbD 0 <;> simp

theorem crcStep_xor (c d : Half) : crcStep (c ^^^ d) = crcStep c ^^^ crcStep d := by
  have hpoly (p q : Bool) : (bif p ^^ q then CRC_POLY else 0) =
      (bif p then CRC_POLY else 0) ^^^ bif q then CRC_POLY else 0 := by
    cases p <;> cases q <;> simp
  rw [crcStep_eq_xor, crcStep_eq_xor c, crcStep_eq_xor d, BitVec.getLsbD_xor, hpoly, BitVec.ushiftRight_xor_distrib]
  ac_rfl

theorem crcSteps_xor (k : Nat) (c d : Half) : crcSteps k (c ^^^ d) = crcSteps k c ^^^ crcSteps k d := by
  induction k generalizing c d with
  | zero => rfl
  | succ k ih => rw [crcSteps, crcStep_xor, ih]; rfl

/-- While only zeros are shifted out, the steps only shift. -/
theorem crcSteps_of_low_bits_zero {k : Nat} {c : Half} (h : ∀ i < k, c.getLsbD i = false) : crcSteps k c = c >>> k := by
  induction k generalizing c with
  | zero => simp [crcSteps]
  | succ k ih =>
    have hstep : crcStep c = c >>> 1 := if_neg (by rw [h 0 k.succ_pos]; exact Bool.false_ne_true)
    have hlow : ∀ i < k, (c >>> 1).getLsbD i = false := fun i hi => by
      rw [BitVec.getLsbD_ushiftRight]
      exact h (1 + i) (by omega)
    rw [crcSteps, hstep, ih hlow, ← BitVec.shiftRight_add, Nat.add_comm]

/-- The polynomial's top bit stays set where it was added, so no bit shifted out is lost. -/
theorem crcStep_eq_zero {c : Half} (h : crcStep c = 0) : c = 0 := by
  unfold crcStep at h
  split at h
  · have htop := congrArg (BitVec.getLsbD · 15) h
    simp [CRC_POLY] at htop
  · next hlow =>
    refine BitVec.eq_of_getLsbD_eq fun i _ => ?_
    cases i with
    | zero => exact Bool.eq_false_iff.mpr hlow
    | succ i =>
      have hbit := congrArg (BitVec.getLsbD · i) h
      simpa [BitVec.getLsbD_ushiftRight, Nat.add_comm] using hbit

theorem crcStep_injective : Function.Injective crcStep := fun c d h => by
  have hxor : crcStep (c ^^^ d) = 0 := by rw [crcStep_xor, h]; exact BitVec.xor_self
  exact BitVec.xor_eq_zero_iff.mp (crcStep_eq_zero hxor)

theorem crcSteps_injective (k : Nat) : Function.Injective (crcSteps k) := by
  induction k with
  | zero => exact Function.injective_id
  | succ k ih => exact ih.comp crcStep_injective

/-! ### O17: `CRC16_UPDATE` -/

theorem exec_crc16Update (s : State) (crc : Half) (b : Byte) :
    exec (.crc16Update crc b) s = .next (s.ret (.half (crc16Update crc b))) := exec_of_pureResult rfl

/-- The high byte is only shifted down; what the polynomial adds depends on the low byte alone. -/
theorem crcSteps_eight_eq_xor (x : Half) :
    crcSteps 8 x = (x >>> 8) ^^^ crcSteps 8 ((x.truncate 8).zeroExtend 16) := by
  have hsplit : x = (x >>> 8 <<< 8) ^^^ (x.truncate 8).zeroExtend 16 := by
    ext i hi
    by_cases hlow : i < 8
    · simp [hlow, BitVec.getLsbD_eq_getElem hi]
    · simp [hlow, BitVec.getLsbD_eq_getElem hi, Nat.add_sub_of_le (Nat.le_of_not_lt hlow)]
  have hback : x >>> 8 <<< 8 >>> 8 = x >>> 8 := by
    ext i
    simpa using BitVec.lt_of_getLsbD
  have hhigh : crcSteps 8 (x >>> 8 <<< 8) = x >>> 8 := by
    rw [crcSteps_of_low_bits_zero fun i hi => by simp [hi], hback]
  conv_lhs => rw [hsplit, crcSteps_xor, hhigh]

/-- The table form of R111: the low byte of the operands' sum selects the entry. -/
theorem crc16Update_eq_table (crc : Half) (b : Byte) :
    crc16Update crc b = (crc >>> 8) ^^^ crc16Update 0 ((crc ^^^ b.zeroExtend 16).truncate 8) := by
  have hhigh : (crc ^^^ b.zeroExtend 16) >>> 8 = crc >>> 8 := by
    ext i
    simp
  have hentry (t : Byte) : crc16Update 0 t = crcSteps 8 (t.zeroExtend 16) := congrArg (crcSteps 8) BitVec.zero_xor
  rw [hentry, crc16Update, crcSteps_eight_eq_xor, hhigh]

/-- Settles O17: eight steps by unfolding, the table form by linearity, the values of the rule by evaluation. -/
theorem crcUpdateIsTheReflectedForm : Obligations.CrcUpdateIsTheReflectedForm := by
  unfold Obligations.CrcUpdateIsTheReflectedForm
  refine ⟨fun crc b => rfl, crc16Update_eq_table, ?_, ?_, ?_, ?_, ?_, ?_, ?_, ?_, ?_, ?_, ?_, ?_, ?_, ?_,
    exec_crc16Update⟩
  all_goals decide

/-! ### O19: running CRCs -/

theorem crc16Update_injective (b : Byte) : Function.Injective fun c : Half => crc16Update c b :=
  (crcSteps_injective 8).comp fun _ _ => (BitVec.xor_left_inj _).mp

theorem crc16_injective (bs : List Byte) : Function.Injective fun c : Half => crc16 c bs := by
  induction bs with
  | nil => exact Function.injective_id
  | cons b bs ih => exact ih.comp (crc16Update_injective b)

/-- Settles O19: on the finitely many CRC values an injection is a bijection. -/
theorem runningCrcsNeverMerge : Obligations.RunningCrcsNeverMerge :=
  ⟨fun b => Finite.injective_iff_bijective.mp (crc16Update_injective b), fun bs _ _ => (crc16_injective bs).ne⟩

/-! ### O18: the fold -/

theorem exec_crc16 (s : State) (bs : List Byte) :
    exec (.crc16 bs) s = .next (s.ret (.half (crc16 s.cfg.crcInit bs))) := exec_of_pureResult rfl

/-- One more byte is one more update (R112). -/
theorem crc16_concat (init : Half) (bs : List Byte) (b : Byte) :
    crc16 init (bs ++ [b]) = crc16Update (crc16 init bs) b := List.foldl_concat _ _ _ _

/-- Settles O18: a longer sequence is one more update; `simp` runs the unit on the rule's vectors, step by step. -/
theorem crcOfASequenceIsTheFold : Obligations.CrcOfASequenceIsTheFold := by
  refine ⟨fun s => exec_crc16 s [], fun s bs b => ?_, ?_, ?_, ?_, ?_, ?_⟩
  · rw [exec_crc16, crc16_concat]; rfl
  all_goals simp [crc16, crc16Update, crcSteps, crcStep, CRC_POLY]

end Sys2Proof.Machine

/-! The nibble codec (40_crc_and_nibble_codec.md R116 to R120): O20. `hex2nib_nib2hex`, above, is one of its round trips. -/

namespace Sys2Proof.Machine

/-- `HEX2NIB` with the naturals of its pseudocode (R116). -/
theorem hex2nib_eq_ite (lower : Bool) (b : Byte) :
    hex2nib lower b =
      if 0x30 ≤ b.toNat ∧ b.toNat ≤ 0x39 then some (BitVec.ofNat 4 (b.toNat - 0x30))
      else if 0x41 ≤ b.toNat ∧ b.toNat ≤ 0x46 then some (BitVec.ofNat 4 (b.toNat - 0x41 + 10))
      else if lower = true ∧ 0x61 ≤ b.toNat ∧ b.toNat ≤ 0x66 then some (BitVec.ofNat 4 (b.toNat - 0x61 + 10))
      else none := by
  refine ite_congr rfl (fun hb => ?decimal) fun _ => ite_congr rfl (fun hb => ?upper) fun _ =>
    ite_congr rfl (fun hb => ?lower) fun _ => rfl
  case decimal | upper | lower => exact congrArg some (by bv_omega)

/-- `NIB2HEX` with the naturals of its pseudocode (R117). -/
theorem nib2hex_eq_ite (n : Nibble) :
    nib2hex n = if n.toNat < 10 then BitVec.ofNat 8 (0x30 + n.toNat) else BitVec.ofNat 8 (0x41 + (n.toNat - 10)) := by
  unfold nib2hex
  simp only [BitVec.lt_def]
  split_ifs <;> bv_omega

/-- A byte that is no lowercase digit is spelled back as it was read (R118). -/
theorem nib2hex_of_hex2nib {lower : Bool} {b : Byte} {n : Nibble} (h : hex2nib lower b = some n)
    (hb : ¬(0x61 ≤ b.toNat ∧ b.toNat ≤ 0x66)) : nib2hex n = b := by
  rw [hex2nib_eq_ite] at h
  rw [nib2hex_eq_ite]
  split_ifs at h with hdecimal hupper hlower
  · obtain rfl := Option.some.inj h
    rw [if_pos (by bv_omega)]
    bv_omega
  · obtain rfl := Option.some.inj h
    rw [if_neg (by bv_omega)]
    bv_omega
  · exact absurd hlower.2 hb

theorem exec_hex2nib (s : State) (b : Byte) :
    exec (.hex2nib b) s = .next (s.ret
      (.okNib (hex2nib s.cfg.hexAcceptLower b).isSome ((hex2nib s.cfg.hexAcceptLower b).getD 0))) := exec_of_pureResult rfl

theorem exec_nib2hex (s : State) (n : Nibble) : exec (.nib2hex n) s = .next (s.ret (.byte (nib2hex n))) :=
  exec_of_pureResult rfl

theorem extractLsb'_extractLsb'_of_add_le {w start len start' len' : Nat} (x : BitVec w) (h : start + len ≤ len') :
    (x.extractLsb' start' len').extractLsb' start len = x.extractLsb' (start' + start) len := by
  ext i hi
  have hin : start + i < len' := by omega
  simp [hin, Nat.add_assoc]

/-- A half word is spelled byte by byte, the high one first (R119, R120). -/
theorem hex4_eq_append (v : Half) : hex4 v = hex2 (v.extractLsb' 8 8) ++ hex2 (v.extractLsb' 0 8) := by
  unfold hex2
  repeat rw [extractLsb'_extractLsb'_of_add_le v (by decide)]
  rfl

/-- Settles O20 from the codec's equations over the naturals. -/
theorem nibbleCodecIsTheTable : Obligations.NibbleCodecIsTheTable := by
  refine ⟨fun s b => ?hex2nib, fun s n => ?nib2hex, fun _ => rfl, hex4_eq_append, hex2nib_nib2hex,
    fun _ _ _ => nib2hex_of_hex2nib⟩
  case hex2nib =>
    rw [exec_hex2nib, hex2nib_eq_ite]
    split_ifs <;> rfl
  case nib2hex => rw [exec_nib2hex, nib2hex_eq_ite]; rfl

end Sys2Proof.Machine

/-! The request machine rule by rule (41_rx_state_machine.md R125 to R140): an equation for each case of a rule, then the
statements about a single rule, O23 and O25 to O31. -/

namespace Sys2Proof.Machine

/-! ### The front end (R126, R131) -/

theorem State.rxFront_of_delimiter (s : State) {b : Byte} (hb : b = STX ∨ b = ETX) : s.rxFront b = (s.errorPath, none) := by
  rcases s.rxFront_cases b with ⟨-, h⟩ | ⟨hstx, hetx, -⟩ | ⟨-, hstx, hetx, -⟩
  · exact h
  · exact absurd hb (by simp [hstx, hetx])
  · exact absurd hb (by simp [hstx, hetx])

theorem State.rxFront_of_no_digit {s : State} {b : Byte} (hstx : b ≠ STX) (hetx : b ≠ ETX)
    (hn : hex2nib s.cfg.hexAcceptLower b = none) : s.rxFront b = ((s.rxCrc b).errorPath, none) := by
  rcases s.rxFront_cases b with ⟨hb, -⟩ | ⟨-, -, -, h⟩ | ⟨m, -, -, hm, -⟩
  · exact absurd hb (by simp [hstx, hetx])
  · exact h
  · rw [hn] at hm; cases hm

theorem State.rxFront_of_digit {s : State} {b : Byte} {n : Nibble} (hstx : b ≠ STX) (hetx : b ≠ ETX)
    (hn : hex2nib s.cfg.hexAcceptLower b = some n) : s.rxFront b = (s.rxCrc b, some n) := by
  rcases s.rxFront_cases b with ⟨hb, -⟩ | ⟨-, -, hm, -⟩ | ⟨m, -, -, hm, h⟩
  · exact absurd hb (by simp [hstx, hetx])
  · rw [hn] at hm; cases hm
  · rw [hn] at hm
    rw [h, Option.some.inj hm]

theorem State.rxCrc_of_not_checksummed {s : State} (h : s.rxState.checksummed = false) (b : Byte) : s.rxCrc b = s :=
  if_neg (by simp [h])

theorem RxState.checksummed_iff (x : RxState) : x.checksummed = true ↔ x = .vpn ∨ x = .vcmd ∨ x = .vpay := by
  cases x <;> decide

theorem RxState.not_checksummed_iff (x : RxState) : x.checksummed = false ↔ x = .vf ∨ x = .vcrc := by
  cases x <;> decide

/-! ### A byte outside and inside a field (R125) -/

theorem State.rxByte_of_vf {s : State} (hvf : s.rxState = .vf) (b : Byte) :
    s.rxByte b =
      if b = STX ∧ s.delim = false then s.rxStx else if b = ETX ∧ s.delim = true then s.rxEtx else s.rxNoise := by
  rcases s.rxByte_cases b with ⟨-, hb, hd, h⟩ | ⟨-, hb, hd, h⟩ | ⟨-, hstx, hetx, h⟩ | ⟨hf, -⟩ | ⟨hf, -⟩ | ⟨-, hf, -⟩
  · rw [if_pos ⟨hb, hd⟩, h]
  · rw [if_neg (by simp [hd]), if_pos ⟨hb, hd⟩, h]
  · rw [if_neg hstx, if_neg hetx, h]
  all_goals exact absurd hvf hf

theorem State.rxByte_of_field {s : State} (hf : s.rxState ≠ .vf) (b : Byte) :
    s.rxByte b = s.rxField b (fieldRule s.rxState) := by
  unfold State.rxByte
  cases h : s.rxState with
  | vf => exact absurd h hf
  | vpn | vcmd | vpay | vcrc => rfl

/-- Where the front end took the error path, the byte is done with. -/
theorem State.rxByte_of_front_none {s t : State} {b : Byte} (hf : s.rxState ≠ .vf) (h : s.rxFront b = (t, none)) :
    s.rxByte b = t := by
  rw [State.rxByte_of_field hf, State.rxField, h]

/-- A digit goes to the rule of its field. -/
theorem State.rxByte_of_front_some {s t : State} {b : Byte} {n : Nibble} (hf : s.rxState ≠ .vf)
    (h : s.rxFront b = (t, some n)) : s.rxByte b = fieldRule s.rxState t n := by
  rw [State.rxByte_of_field hf, State.rxField, h]

/-- In a field a byte is checksummed everywhere but in the CRC field itself (R131). -/
theorem State.rxCrc_of_field {s : State} (hf : s.rxState ≠ .vf) (b : Byte) :
    s.rxCrc b =
      if s.rxState = .vcrc then s else s.modSlot s.rxIdx fun sl => { sl with crcCalc := crc16Update sl.crcCalc b } := by
  unfold State.rxCrc
  cases h : s.rxState with
  | vf => exact absurd h hf
  | vpn | vcmd | vpay | vcrc => rfl

/-- Settles O23: outside a field by R125's conditions; in a field the front end decides, and the rule is the field's. -/
theorem rxByteSelectsItsRule : Obligations.RxByteSelectsItsRule := by
  intro s b checked
  have hchecked (hf : s.rxState ≠ .vf) : s.rxCrc b = checked := State.rxCrc_of_field hf b
  refine ⟨fun hvf => ?vf, fun hf hb => ?delimiter, fun hf hstx hetx => ⟨fun hn => ?noDigit, fun n hn => ?digit⟩⟩
  case vf =>
    have h := congrArg (Host.Outcome.next (φ := Fault) (ρ := Refusal)) (State.rxByte_of_vf hvf b)
    rw [apply_ite Host.Outcome.next, apply_ite Host.Outcome.next] at h
    exact h
  case delimiter => exact congrArg Host.Outcome.next (State.rxByte_of_front_none hf (s.rxFront_of_delimiter hb))
  case noDigit =>
    rw [← hchecked hf]
    exact congrArg Host.Outcome.next (State.rxByte_of_front_none hf (State.rxFront_of_no_digit hstx hetx hn))
  case digit =>
    have h := State.rxByte_of_front_some hf (State.rxFront_of_digit hstx hetx hn)
    rw [hchecked hf] at h
    refine ⟨fun hx => ?_, fun hx => ?_, fun hx => ?_, fun hx => ?_⟩
    all_goals
      rw [hx] at h
      exact congrArg Host.Outcome.next h

/-! ### O25: `STX` and noise (R127, R128) -/

theorem Ack.outstanding_iff (a : Ack) : a.outstanding = true ↔ a = .toBeSend ∨ a = .sending := by
  cases a <;> decide

theorem Ack.not_outstanding_iff (a : Ack) : a.outstanding = false ↔ a = .notReady ∨ a = .sent := by
  cases a <;> decide

theorem State.rxStx_of_full {s : State} (h : (s.slot s.rxTarget).ack.outstanding = true) :
    s.rxStx = { s with delim := false } := if_pos h

theorem State.rxStx_of_free {s : State} (h : (s.slot s.rxTarget).ack.outstanding = false) : s.rxStx = s.opened :=
  if_neg (by simp [h])

/-- Settles O25: the target is `rx_target`, its `ack` decides between the drop and the opened frame. -/
theorem stxSteersAndClearsNoiseDoesNot : Obligations.StxSteersAndClearsNoiseDoesNot :=
  ⟨fun _ =>
    ⟨fun h => congrArg Host.Outcome.next (State.rxStx_of_full ((Ack.outstanding_iff _).mpr h)),
     fun h => congrArg Host.Outcome.next (State.rxStx_of_free ((Ack.not_outstanding_iff _).mpr h)),
     fun _ => rfl⟩,
   fun _ => rfl⟩

/-! ### O26: the expected `ETX` (R129) -/

theorem State.rxEtx_of_good {s : State} (h : s.rxSlot.err = false) :
    s.rxEtx = { s.rxDispatch.arm s.rxIdx with delim := false } := by
  simp [State.rxEtx, h]

theorem State.rxEtx_of_err {s : State} (h : s.rxSlot.err = true) :
    s.rxEtx = { s.arm s.rxIdx with delim := false } := by
  simp [State.rxEtx, h]

/-- Settles O26, by the slot's `err`. -/
theorem expectedEtxDispatchesAndArms : Obligations.ExpectedEtxDispatchesAndArms := fun _ =>
  ⟨fun h => congrArg Host.Outcome.next (State.rxEtx_of_good h), fun h => congrArg Host.Outcome.next (State.rxEtx_of_err h)⟩

/-! ### O27: the packet number (R132, R133) -/

theorem State.rxNibble_of_first {s : State} (h : s.nibCnt = 0) (n : Nibble) :
    s.rxNibble n = ({ s with acc := n.zeroExtend 8 <<< 4, nibCnt := 1 }, none) := if_pos h

theorem State.rxNibble_of_second {s : State} (h : s.nibCnt ≠ 0) (n : Nibble) :
    s.rxNibble n = ({ s with nibCnt := 0 }, some (s.acc ||| n.zeroExtend 8)) := if_neg h

theorem State.rxVpn_of_second {s : State} (h : s.nibCnt ≠ 0) (n : Nibble) :
    s.rxVpn n =
      { s.modSlot s.rxIdx fun sl => { sl with pn := s.acc ||| n.zeroExtend 8 } with nibCnt := 0, rxState := .vcmd } := by
  unfold State.rxVpn
  rw [State.rxNibble_of_second h]
  rfl

/-- Settles O27, by the nibble's place in its byte. -/
theorem packetNumberField : Obligations.PacketNumberField := fun _ n =>
  ⟨fun h => congrArg Host.Outcome.next (State.rxVpn_of_first h n),
   fun h => congrArg Host.Outcome.next (State.rxVpn_of_second h n)⟩

/-! ### O28: the command id (R135, R137) -/

theorem invalidId_iff (cfg : Config) (v : Byte) : invalidId cfg v = true ↔ v = 0 ∨ cfg.catalogSize ≤ v.toNat := by
  simp [invalidId]

theorem State.rxVcmd_of_first {s : State} (h : s.nibCnt = 0) (n : Nibble) :
    s.rxVcmd n = { s with acc := n.zeroExtend 8 <<< 4, nibCnt := 1 } := by
  unfold State.rxVcmd
  rw [State.rxNibble_of_first h]

theorem State.rxVcmd_of_invalid {s : State} (h : s.nibCnt ≠ 0) {n : Nibble}
    (hv : invalidId s.cfg (s.acc ||| n.zeroExtend 8) = true) :
    s.rxVcmd n = ({ s.modSlot s.rxIdx fun sl => { sl with cmd := 0 } with nibCnt := 0 } : State).errorPath := by
  unfold State.rxVcmd
  rw [State.rxNibble_of_second h]
  exact if_pos hv

theorem State.rxVcmd_of_valid {s : State} (h : s.nibCnt ≠ 0) {n : Nibble}
    (hv : invalidId s.cfg (s.acc ||| n.zeroExtend 8) = false) :
    s.rxVcmd n =
      ({ s.modSlot s.rxIdx fun sl => { sl with cmd := s.acc ||| n.zeroExtend 8 } with nibCnt := 0 } : State).rxFieldChoice := by
  unfold State.rxVcmd
  rw [State.rxNibble_of_second h]
  exact if_neg (by simp [hv])

theorem State.rxFieldChoice_of_no_payload {s : State} (h : reqLen s.cfg s.rxSlot.cmd = 0) :
    s.rxFieldChoice = s.toCrcField := if_pos h

theorem State.rxFieldChoice_of_payload {s : State} (h : reqLen s.cfg s.rxSlot.cmd ≠ 0) :
    s.rxFieldChoice = { s with rxState := .vpay, nibCnt := 0, payCnt := 0 } := if_neg h

/-- Settles O28: by the nibble's place, then by the id's validity; the choice by the payload's length. -/
theorem commandField : Obligations.CommandField := by
  refine fun s n => ⟨fun h => ?first, fun h => ⟨fun hv => ?invalid, fun hne hlt => ?valid⟩, fun h => ?crc, fun h => ?payload⟩
  case first => exact congrArg Host.Outcome.next (State.rxVcmd_of_first h n)
  case invalid => exact congrArg Host.Outcome.next (State.rxVcmd_of_invalid h ((invalidId_iff _ _).mpr hv))
  case valid =>
    have hv : invalidId s.cfg (s.acc ||| n.zeroExtend 8) = false := by
      rw [Bool.eq_false_iff, ne_eq, invalidId_iff]
      exact not_or.mpr ⟨hne, Nat.not_le.mpr hlt⟩
    exact congrArg Host.Outcome.next (State.rxVcmd_of_valid h hv)
  case crc => exact congrArg Host.Outcome.next (State.rxFieldChoice_of_no_payload h)
  case payload => exact congrArg Host.Outcome.next (State.rxFieldChoice_of_payload h)

/-! ### O29: the payload (R138) -/

theorem State.rxVpay_of_first {s : State} (h : s.nibCnt = 0) (n : Nibble) :
    s.rxVpay n = { s with acc := n.zeroExtend 8 <<< 4, nibCnt := 1 } := by
  unfold State.rxVpay
  rw [State.rxNibble_of_first h]

/-- What a stored payload byte leads to (R138): before the last nothing, after it the CRC field or the error path. -/
def State.payloadByteStored (s : State) : State :=
  if s.payCnt.toNat = reqLen s.cfg s.rxSlot.cmd then
    if validate s.cfg s.rxSlot.cmd s.rxSlot.payload then s.toCrcField else s.errorPath
  else s

theorem State.payloadByteStored_of_more {s : State} (h : s.payCnt.toNat ≠ reqLen s.cfg s.rxSlot.cmd) :
    s.payloadByteStored = s := if_neg h

theorem State.payloadByteStored_of_valid {s : State} (h : s.payCnt.toNat = reqLen s.cfg s.rxSlot.cmd)
    (hv : validate s.cfg s.rxSlot.cmd s.rxSlot.payload = true) : s.payloadByteStored = s.toCrcField := by
  rw [State.payloadByteStored, if_pos h, if_pos hv]

theorem State.payloadByteStored_of_rejected {s : State} (h : s.payCnt.toNat = reqLen s.cfg s.rxSlot.cmd)
    (hv : validate s.cfg s.rxSlot.cmd s.rxSlot.payload = false) : s.payloadByteStored = s.errorPath := by
  rw [State.payloadByteStored, if_pos h, if_neg (by simp [hv])]

theorem State.rxVpay_of_second {s : State} (h : s.nibCnt ≠ 0) (n : Nibble) :
    s.rxVpay n =
      (({ s with nibCnt := 0 } : State).storePayloadByte (s.acc ||| n.zeroExtend 8)).payloadByteStored := by
  unfold State.rxVpay
  rw [State.rxNibble_of_second h]
  rfl

/-- Inside the slot's 20 bytes a payload byte is stored in its place. -/
theorem State.storePayloadByte_of_index {s : State} {k : Fin 20} (hk : s.payCnt.toNat = k.val) (v : Byte) :
    s.storePayloadByte v =
      { s.modSlot s.rxIdx fun sl => { sl with payload := sl.payload.set k.val v k.isLt } with payCnt := s.payCnt + 1 } := by
  have hset (p : Vector Byte 20) : p.setIfInBounds k.val v = p.set k.val v k.isLt :=
    Vector.ext fun i hi => by rw [Vector.getElem_setIfInBounds hi, Vector.getElem_set k.isLt hi]
  simp only [State.storePayloadByte, hk, hset]

/-- Settles O29: by the nibble's place, then by what the stored byte leads to. -/
theorem payloadField : Obligations.PayloadField := by
  refine fun s n => ⟨fun h => congrArg Host.Outcome.next (State.rxVpay_of_first h n), fun k h hk => ?_⟩
  have hstore := State.rxVpay_of_second h n
  rw [State.storePayloadByte_of_index (s := { s with nibCnt := 0 }) hk] at hstore
  have hpay : (s.payCnt + 1).toNat = k.val + 1 := by
    have := k.isLt
    bv_omega
  refine ⟨fun hlen => ?_, fun hlen hv => ?_, fun hlen hv => ?_⟩
  · exact congrArg Host.Outcome.next (hstore.trans (State.payloadByteStored_of_more (hpay.trans_ne hlen)))
  · exact congrArg Host.Outcome.next (hstore.trans (State.payloadByteStored_of_rejected (hpay.trans hlen) hv))
  · exact congrArg Host.Outcome.next (hstore.trans (State.payloadByteStored_of_valid (hpay.trans hlen) hv))

/-! ### O30: the CRC field (R140) -/

/-- The count of digits is back at 0 after the fourth. -/
theorem nibCnt_add_one_eq_zero_iff (x : BitVec 2) : x + 1 = 0 ↔ x = 3 := by
  revert x
  decide

theorem State.rxVcrc_of_more {s : State} (h : s.nibCnt ≠ 3) (n : Nibble) : s.rxVcrc n = s.shiftCrcDigit n :=
  if_neg (mt (nibCnt_add_one_eq_zero_iff _).mp h)

theorem State.rxVcrc_of_fourth {s : State} (h : s.nibCnt = 3) (n : Nibble) :
    s.rxVcrc n =
      if (s.shiftCrcDigit n).rxSlot.crcRx = (s.shiftCrcDigit n).rxSlot.crcCalc then { s.shiftCrcDigit n with rxState := .vf }
      else (s.shiftCrcDigit n).errorPath :=
  if_pos ((nibCnt_add_one_eq_zero_iff _).mpr h)

/-- Settles O30: by the digit's place, then by the comparison. -/
theorem checksumField : Obligations.ChecksumField := fun _ n =>
  ⟨fun h => congrArg Host.Outcome.next (State.rxVcrc_of_more h n),
   fun h hne => congrArg Host.Outcome.next ((State.rxVcrc_of_fourth h n).trans (if_neg hne)),
   fun h heq => congrArg Host.Outcome.next ((State.rxVcrc_of_fourth h n).trans (if_pos heq))⟩

/-! ### O31: the row `RX_FIELD_DIGIT` (R126, R131, R132) -/

theorem State.rxFieldDigit_of_front_none {s t : State} {b : Byte} (h : s.rxFront b = (t, none)) : s.rxFieldDigit b = t := by
  rw [State.rxFieldDigit, h]

theorem State.rxFieldDigit_of_front_some {s t : State} {b : Byte} {n : Nibble} (h : s.rxFront b = (t, some n)) :
    s.rxFieldDigit b =
      if t.rxState.checksummed then (t.rxNibble n).1.ret (.optByte (t.rxNibble n).2) else t.ret (.nib n) := by
  rw [State.rxFieldDigit, h]

/-- Settles O31: the front end decides; a digit is accumulated where bytes are checksummed and handed over elsewhere. -/
theorem fieldFrontEnd : Obligations.FieldFrontEnd := by
  refine fun s b => ⟨fun hb => ?delimiter, fun n hstx hetx hn => ⟨fun hx => ?accumulated, fun hx => ?handed⟩,
    fun hstx hetx hn => ⟨fun hx => ?checked, fun hx => ?unchecked⟩⟩
  case delimiter =>
    exact congrArg Host.Outcome.next (State.rxFieldDigit_of_front_none (s.rxFront_of_delimiter hb))
  case accumulated =>
    have hsum := s.rxState.checksummed_iff.mpr hx
    have h := State.rxFieldDigit_of_front_some (State.rxFront_of_digit hstx hetx hn)
    rw [State.rxCrc_of_checksummed hsum, if_pos (by exact hsum)] at h
    refine ⟨fun hnib => ?_, fun hnib => ?_⟩
    · rw [State.rxNibble_of_first (by exact hnib)] at h
      exact congrArg Host.Outcome.next h
    · rw [State.rxNibble_of_second (by exact hnib)] at h
      exact congrArg Host.Outcome.next h
  case handed =>
    have hsum := s.rxState.not_checksummed_iff.mpr hx
    have h := State.rxFieldDigit_of_front_some (State.rxFront_of_digit hstx hetx hn)
    rw [State.rxCrc_of_not_checksummed hsum, if_neg (by simp [hsum])] at h
    exact congrArg Host.Outcome.next h
  case checked =>
    have h := State.rxFieldDigit_of_front_none (State.rxFront_of_no_digit hstx hetx hn)
    rw [State.rxCrc_of_checksummed (s.rxState.checksummed_iff.mpr hx)] at h
    exact congrArg Host.Outcome.next h
  case unchecked =>
    have h := State.rxFieldDigit_of_front_none (State.rxFront_of_no_digit hstx hetx hn)
    rw [State.rxCrc_of_not_checksummed (s.rxState.not_checksummed_iff.mpr hx)] at h
    exact congrArg Host.Outcome.next h

end Sys2Proof.Machine

/-! The calls of the dispatcher in the output (R17, R145, R276): which operations make one, then O37. -/

namespace Sys2Proof.Machine

/-- The dispatcher calls put out so far. -/
def State.dispatches (s : State) : List Output := s.out.filter Output.isDispatch

theorem State.dispatches_congr {s t : State} (h : t.out = s.out) : t.dispatches = s.dispatches :=
  congrArg (List.filter Output.isDispatch) h

theorem State.dispatches_append {s t : State} {os : List Output} (h : t.out = s.out ++ os) :
    t.dispatches = s.dispatches ++ os.filter Output.isDispatch := by
  rw [State.dispatches, h, List.filter_append, State.dispatches]

/-- An output that is no call leaves the calls as they were. -/
theorem State.dispatches_of_other {s t : State} {o : Output} (h : t.out = s.out ++ [o]) (ho : o.isDispatch = false) :
    t.dispatches = s.dispatches := by
  rw [State.dispatches_append h, List.filter_singleton, ho, cond_false, List.append_nil]

/-! ### The response machine and the error path call nothing -/

theorem State.txPump_dispatches (s : State) : s.txPump.dispatches = s.dispatches := by
  rcases s.txPump_cases with ⟨-, -, h⟩ | ⟨i, -, -, h⟩ | ⟨-, b, h⟩
  · rw [h]; rfl
  · rw [h]; exact State.dispatches_of_other (o := .txPut STX) rfl rfl
  · have hout : s.txStream.1.out = s.out := by rw [State.txStream_frame]
    rw [h, State.dispatches_of_other (s.txStream.1.txPut_out b) rfl, State.dispatches_congr hout]

theorem State.arm_dispatches (s : State) (i : Fin 3) : (s.arm i).dispatches = s.dispatches := by
  unfold State.arm
  dsimp only
  split
  · rfl
  · exact State.txPump_dispatches _

theorem State.errorPath_dispatches (s : State) : s.errorPath.dispatches = s.dispatches :=
  (s.setErr s.rxIdx).arm_dispatches s.rxIdx

/-! ### The dispatcher's rendering calls nothing either -/

theorem State.updateTask_dispatches (s : State) (line : Fin 4) (x : LineCtx) (isInternal : Bool) (r : Option BlinkRec) :
    (s.updateTask line x isInternal r).dispatches = s.dispatches := by
  cases r with
  | none => rfl
  | some r =>
    unfold State.updateTask
    dsimp only
    split
    · split <;> rfl
    · exact State.dispatches_of_other (o := .schedArm) rfl rfl

theorem State.renderLine_dispatches (s : State) (line : Fin 4) (content : Vector Byte 20) (isInternal : Bool) :
    (s.renderLine line content isInternal).dispatches = s.dispatches :=
  State.updateTask_dispatches (s.withCanvas _) line _ isInternal _

theorem State.putLine_dispatches (s : State) (text : List Byte) (line : Nat) :
    (s.putLine text line).1.dispatches = s.dispatches := by
  rcases s.putLine_cases text line with ⟨-, h⟩ | ⟨hline, -, h⟩
  · rw [h]
  · rw [h]
    dsimp only
    unfold State.putLineAt
    split
    · rfl
    · exact State.renderLine_dispatches (s.cacheLine _ _) _ _ _

theorem State.fbClear_dispatches (s : State) : s.fbClear.dispatches = s.dispatches :=
  State.dispatches_congr (by rw [State.fbClear_frame])

theorem State.runCall_dispatches (s : State) (c : RenderCall) : (s.runCall c).dispatches = s.dispatches := by
  cases c with
  | putLine text line => exact s.putLine_dispatches text line
  | renderLine line content isInternal => exact s.renderLine_dispatches line content isInternal
  | putQr version offset contrast =>
    have h : (s.putQr version offset contrast).1.out = s.out := by rw [State.putQr_frame]
    exact State.dispatches_congr h
  | fbClear => exact s.fbClear_dispatches

theorem State.runCalls_dispatches (cs : List RenderCall) (s : State) :
    (cs.foldl State.runCall s).dispatches = s.dispatches := by
  induction cs generalizing s with
  | nil => rfl
  | cons c cs ih => rw [List.foldl_cons, ih, State.runCall_dispatches]

theorem State.referenceDispatch_dispatches (s : State) (id : Byte) (payload : List Byte) :
    (s.referenceDispatch id payload).1.dispatches = s.dispatches := by
  unfold State.referenceDispatch
  split
  case h_2 => exact s.putLine_dispatches _ _
  case h_4 => exact s.fbClear_dispatches
  all_goals rfl

/-! ### The one call -/

/-- `DISPATCH` puts out its own call and no other (R170). -/
theorem State.dispatch_dispatches (s : State) (id : Byte) (payload : List Byte) :
    (s.dispatch id payload).1.dispatches = s.dispatches ++ [.dispatch id payload] := by
  have hcall : (s.emit (.dispatch id payload)).dispatches = s.dispatches ++ [.dispatch id payload] :=
    State.dispatches_append (s.emit_out _)
  rw [← hcall]
  unfold State.dispatch
  dsimp only
  split
  · exact State.runCalls_dispatches _ _
  · exact State.referenceDispatch_dispatches _ id payload

theorem State.rxEtx_dispatches_of_good {s : State} (h : s.rxSlot.err = false) :
    s.rxEtx.dispatches = s.dispatches ++ [.dispatch s.rxSlot.cmd s.rxPayload] := by
  have harm : s.rxEtx.dispatches = s.rxDispatch.dispatches := by
    rw [State.rxEtx_of_good h]
    exact s.rxDispatch.arm_dispatches s.rxIdx
  exact harm.trans (s.dispatch_dispatches s.rxSlot.cmd s.rxPayload)

theorem State.rxEtx_dispatches_of_err {s : State} (h : s.rxSlot.err = true) : s.rxEtx.dispatches = s.dispatches := by
  rw [State.rxEtx_of_err h]
  exact s.arm_dispatches s.rxIdx

/-! ### The other rules of a received byte -/

theorem State.rxCrc_dispatches (s : State) (b : Byte) : (s.rxCrc b).dispatches = s.dispatches := by
  rw [State.rxCrc_frame]; rfl

theorem State.rxStx_dispatches (s : State) : s.rxStx.dispatches = s.dispatches := by
  rcases s.rxStx_cases with ⟨-, h⟩ | ⟨-, h⟩
  all_goals rw [h]; rfl

theorem State.rxFieldChoice_dispatches (s : State) : s.rxFieldChoice.dispatches = s.dispatches := by
  unfold State.rxFieldChoice
  split <;> rfl

theorem State.rxVpn_dispatches (s : State) (n : Nibble) : (s.rxVpn n).dispatches = s.dispatches := by
  by_cases h : s.nibCnt = 0
  · rw [State.rxVpn_of_first h]; rfl
  · rw [State.rxVpn_of_second h]; rfl

theorem State.rxVcmd_dispatches (s : State) (n : Nibble) : (s.rxVcmd n).dispatches = s.dispatches := by
  by_cases h : s.nibCnt = 0
  · rw [State.rxVcmd_of_first h]; rfl
  · cases hv : invalidId s.cfg (s.acc ||| n.zeroExtend 8) with
    | true => rw [State.rxVcmd_of_invalid h hv, State.errorPath_dispatches]; rfl
    | false => rw [State.rxVcmd_of_valid h hv, State.rxFieldChoice_dispatches]; rfl

theorem State.rxVpay_dispatches (s : State) (n : Nibble) : (s.rxVpay n).dispatches = s.dispatches := by
  rcases s.rxVpay_cases n with ⟨-, h⟩ | ⟨v, -, h⟩ | ⟨v, h⟩ | ⟨v, h⟩
  · rw [h]; rfl
  · rw [h]; rfl
  · rw [h]; rfl
  · rw [h, State.errorPath_dispatches]; rfl

theorem State.rxVcrc_dispatches (s : State) (n : Nibble) : (s.rxVcrc n).dispatches = s.dispatches := by
  rcases s.rxVcrc_cases n with h | h | h
  · rw [h]; rfl
  · rw [h]; rfl
  · rw [h, State.errorPath_dispatches]; rfl

theorem fieldRule_dispatches (x : RxState) (s : State) (n : Nibble) : (fieldRule x s n).dispatches = s.dispatches := by
  cases x with
  | vf => rfl
  | vpn => exact s.rxVpn_dispatches n
  | vcmd => exact s.rxVcmd_dispatches n
  | vpay => exact s.rxVpay_dispatches n
  | vcrc => exact s.rxVcrc_dispatches n

/-- The byte is the expected `ETX` of a frame without error (R129, R145). -/
def State.endsGoodFrame (s : State) (b : Byte) : Prop :=
  s.rxState = .vf ∧ b = ETX ∧ s.delim = true ∧ s.rxSlot.err = false

/-- Every byte but the expected `ETX` of a frame without error calls nothing. -/
theorem State.rxByte_dispatches_of_other {s : State} {b : Byte} (hb : ¬s.endsGoodFrame b) :
    (s.rxByte b).dispatches = s.dispatches := by
  rcases s.rxByte_cases b with ⟨-, -, -, h⟩ | ⟨hvf, hetx, hd, h⟩ | ⟨-, -, -, h⟩ | ⟨-, -, h⟩ | ⟨-, -, -, -, h⟩ |
    ⟨n, -, -, -, -, h⟩
  · rw [h, State.rxStx_dispatches]
  · have herr : s.rxSlot.err = true := by
      rw [← Bool.not_eq_false]
      exact fun herr => hb ⟨hvf, hetx, hd, herr⟩
    rw [h, State.rxEtx_dispatches_of_err herr]
  · rw [h]; rfl
  · rw [h, State.errorPath_dispatches]
  · rw [h, State.errorPath_dispatches, State.rxCrc_dispatches]
  · rw [h, fieldRule_dispatches, State.rxCrc_dispatches]

theorem State.rxByte_dispatches_of_good {s : State} {b : Byte} (hb : s.endsGoodFrame b) :
    (s.rxByte b).dispatches = s.dispatches ++ [.dispatch s.rxSlot.cmd s.rxPayload] := by
  obtain ⟨hvf, rfl, hd, herr⟩ := hb
  rw [State.rxByte_of_vf hvf, if_neg (by simp [hd]), if_pos ⟨rfl, hd⟩]
  exact State.rxEtx_dispatches_of_good herr

/-- Settles O37, by whether the byte ends a good frame. -/
theorem dispatchOnlyAtAGoodEtx : Obligations.DispatchOnlyAtAGoodEtx := fun s b =>
  ⟨s.rxByte b, rfl, State.rxByte_dispatches_of_good, State.rxByte_dispatches_of_other⟩

end Sys2Proof.Machine

/-! A whole request frame received (30_encoding.md R85; 41_rx_state_machine.md R127 to R140): field by field the slot of the
open frame is filled in, up to the CRC field; then O35 and O36. -/

namespace Sys2Proof.Machine

/-! ### The error path does not read `rx_state` -/

/-- `TX_NEXT` step 4 (R187), the response formatted: the byte under the cursor. -/
def State.txFormatted (s : State) : State × Option Byte :=
  let t := { s with txCursor := s.txCursor + 1 }
  (if s.txCursor - 1 = s.txLen - 1 then t.setAck t.txIdx .sent else t, some (s.txBuf[(s.txCursor - 1).toNat]?.getD 0))

theorem State.txStream_eq (s : State) :
    s.txStream = (if s.txCursor = 1 then s.txFill s.txIdx else s).txFormatted := rfl

theorem State.txFormatted_withRxState (s : State) (x : RxState) :
    ({ s with rxState := x } : State).txFormatted = ({ s.txFormatted.1 with rxState := x }, s.txFormatted.2) := by
  unfold State.txFormatted
  dsimp only
  split <;> rfl

theorem State.txFill_withRxState (s : State) (x : RxState) (i : Fin 3) :
    ({ s with rxState := x } : State).txFill i = { s.txFill i with rxState := x } := by
  have hslot : ({ s with rxState := x } : State).slot i = s.slot i := rfl
  simp only [State.txFill, hslot]

theorem State.txStream_withRxState (s : State) (x : RxState) :
    ({ s with rxState := x } : State).txStream = ({ s.txStream.1 with rxState := x }, s.txStream.2) := by
  rw [State.txStream_eq, State.txStream_eq, State.txFill_withRxState]
  by_cases h : s.txCursor = 1
  · simp only [h, if_true]
    exact (s.txFill s.txIdx).txFormatted_withRxState x
  · simp only [h, if_false]
    exact s.txFormatted_withRxState x

theorem State.txSelect_withRxState (s : State) (x : RxState) :
    ({ s with rxState := x } : State).txSelect = s.txSelect.map fun t => { t with rxState := x } := by
  unfold State.txSelect
  rw [apply_ite (Option.map _), apply_ite (Option.map _)]
  rfl

theorem State.txNext_withRxState (s : State) (x : RxState) :
    ({ s with rxState := x } : State).txNext = ({ s.txNext.1 with rxState := x }, s.txNext.2) := by
  unfold State.txNext
  rw [State.txSelect_withRxState]
  cases s.txSelect with
  | none => rfl
  | some t =>
    by_cases h : (t.slot t.txIdx).ack = .toBeSend
    · have hx : (({ t with rxState := x } : State).slot t.txIdx).ack = .toBeSend := h
      simp only [Option.map_some, h, hx, if_true]
      rfl
    · have hx : (({ t with rxState := x } : State).slot t.txIdx).ack ≠ .toBeSend := h
      simp only [Option.map_some, h, hx, if_false, t.txStream_withRxState x]

theorem State.txPump_withRxState (s : State) (x : RxState) :
    ({ s with rxState := x } : State).txPump = { s.txPump with rxState := x } := by
  unfold State.txPump
  rw [State.txNext_withRxState]
  rcases s.txNext with ⟨t, _ | b⟩
  · rfl
  · rfl

theorem State.arm_of_busy {s : State} (h : s.txBusy = true) (i : Fin 3) : s.arm i = s.setAck i .toBeSend := if_pos h

theorem State.arm_of_idle {s : State} (h : s.txBusy ≠ true) (i : Fin 3) : s.arm i = (s.setAck i .toBeSend).txPump :=
  if_neg h

theorem State.arm_withRxState (s : State) (x : RxState) (i : Fin 3) :
    ({ s with rxState := x } : State).arm i = { s.arm i with rxState := x } := by
  by_cases h : s.txBusy = true
  · rw [State.arm_of_busy h, State.arm_of_busy (by exact h)]
    rfl
  · rw [State.arm_of_idle h, State.arm_of_idle (by exact h)]
    exact (s.setAck i .toBeSend).txPump_withRxState x

/-- The error path is the same from every field (R275). -/
theorem State.errorPath_withRxState (s : State) (x : RxState) :
    ({ s with rxState := x } : State).errorPath = s.errorPath := by
  have harm : (({ s with rxState := x } : State).setErr s.rxIdx).arm s.rxIdx =
      { (s.setErr s.rxIdx).arm s.rxIdx with rxState := x } := (s.setErr s.rxIdx).arm_withRxState x s.rxIdx
  unfold State.errorPath
  rw [harm]

/-! ### The state of an open frame -/

/-- `s` with a frame opened by an accepted `STX` (R127): the slot steered to holds `sl`, the field registers are as given. -/
def State.inFrame (s : State) (sl : Slot) (x : RxState) (nib : BitVec 2) (pay : BitVec 5) (acc : Byte) : State :=
  { s with
    slots := s.slots.set s.rxTarget.val sl s.rxTarget.isLt
    rxIdx := s.rxTarget
    rxState := x
    delim := true
    nibCnt := nib
    payCnt := pay
    acc := acc }

section

variable (s : State) (sl : Slot) (x : RxState) (nib : BitVec 2) (pay : BitVec 5) (acc : Byte)

@[simp] theorem State.inFrame_rxState : (s.inFrame sl x nib pay acc).rxState = x := rfl
@[simp] theorem State.inFrame_nibCnt : (s.inFrame sl x nib pay acc).nibCnt = nib := rfl
@[simp] theorem State.inFrame_acc : (s.inFrame sl x nib pay acc).acc = acc := rfl
@[simp] theorem State.inFrame_rxIdx : (s.inFrame sl x nib pay acc).rxIdx = s.rxTarget := rfl

@[simp] theorem State.inFrame_slot : (s.inFrame sl x nib pay acc).slot s.rxTarget = sl :=
  Vector.getElem_set_self s.rxTarget.isLt

@[simp] theorem State.inFrame_rxSlot : (s.inFrame sl x nib pay acc).rxSlot = sl := s.inFrame_slot sl x nib pay acc

/-- A write to the slot steered to. -/
@[simp] theorem State.inFrame_modSlot (f : Slot → Slot) :
    (s.inFrame sl x nib pay acc).modSlot s.rxTarget f = s.inFrame (f sl) x nib pay acc := by
  have hset : (s.slots.set s.rxTarget.val sl s.rxTarget.isLt).set s.rxTarget.val (f sl) s.rxTarget.isLt =
      s.slots.set s.rxTarget.val (f sl) s.rxTarget.isLt := Vector.set_set sl s.rxTarget.isLt
  rw [State.modSlot, State.inFrame_slot]
  unfold State.inFrame
  simp only [hset]

@[simp] theorem State.inFrame_toCrcField :
    (s.inFrame sl x nib pay acc).toCrcField = s.inFrame { sl with crcRx := 0 } .vcrc 0 pay acc := by
  rw [State.toCrcField, State.inFrame_rxIdx, State.inFrame_modSlot]
  rfl

theorem State.inFrame_errorPath (y : RxState) :
    (s.inFrame sl x nib pay acc).errorPath = (s.inFrame sl y nib pay acc).errorPath :=
  (s.inFrame sl y nib pay acc).errorPath_withRxState x

end

theorem State.parsed_eq_inFrame (s : State) (pn id : Byte) (payload : List Byte) :
    s.parsed pn id payload =
      s.inFrame
        { Slot.cleared s.cfg.crcInit with
          cmd := id
          pn := pn
          payload := slotPayload payload
          crcCalc := crc16 s.cfg.crcInit (frameBody pn id payload) }
        .vcrc 0 (if payload.length = 0 then s.payCnt else BitVec.ofNat 5 payload.length)
        (payload.getLastD id &&& 0xF0) := rfl

theorem State.rxBytes_append (s : State) (as bs : List Byte) : s.rxBytes (as ++ bs) = (s.rxBytes as).rxBytes bs :=
  List.foldl_append

theorem State.rxBytes_cons (s : State) (b : Byte) (bs : List Byte) : s.rxBytes (b :: bs) = (s.rxByte b).rxBytes bs := rfl

/-- An `STX` that is accepted opens a frame in a cleared slot (R127). -/
theorem State.rxByte_stx {s : State} (h : s.accepts) :
    s.rxByte STX = s.inFrame (Slot.cleared s.cfg.crcInit) .vpn 0 s.payCnt 0 := by
  obtain ⟨hvf, hd, hfree⟩ := h
  rw [State.rxByte_of_vf hvf, if_pos ⟨rfl, hd⟩, State.rxStx_of_free hfree]
  rfl

/-! ### One byte of a field, as its two digits (R119, R132) -/

theorem highNibble_eq (v : Byte) : (v.extractLsb' 4 4).zeroExtend 8 <<< 4 = v &&& 0xF0 := by
  revert v
  decide

theorem joinNibbles_eq (v : Byte) : (v &&& 0xF0) ||| (v.extractLsb' 0 4).zeroExtend 8 = v := by
  revert v
  decide

/-- The first digit of a byte is kept in `acc`, whatever the field (R132). -/
theorem fieldRule_of_first {x : RxState} (hx : x.checksummed = true) {s : State} (hnib : s.nibCnt = 0) (n : Nibble) :
    fieldRule x s n = { s with acc := n.zeroExtend 8 <<< 4, nibCnt := 1 } := by
  cases x with
  | vpn => exact State.rxVpn_of_first hnib n
  | vcmd => exact State.rxVcmd_of_first hnib n
  | vpay => exact State.rxVpay_of_first hnib n
  | vf | vcrc => cases hx

/-- A digit of a checksummed field of the open frame. -/
theorem State.inFrame_rxByte_nib2hex (s : State) (sl : Slot) {x : RxState} (hx : x.checksummed = true) (nib : BitVec 2)
    (pay : BitVec 5) (acc : Byte) (n : Nibble) :
    (s.inFrame sl x nib pay acc).rxByte (nib2hex n) =
      fieldRule x (s.inFrame { sl with crcCalc := crc16Update sl.crcCalc (nib2hex n) } x nib pay acc) n := by
  have hf : x ≠ .vf := by
    rintro rfl
    cases hx
  rw [State.rxByte_nib2hex (s := s.inFrame sl x nib pay acc) hf, State.rxCrc_of_checksummed (by exact hx),
    State.inFrame_rxIdx, State.inFrame_modSlot, State.inFrame_rxState]

/-- Both digits of a byte: checksummed, the high nibble kept in `acc`, the low one given to the rule of the field. -/
theorem State.inFrame_rxBytes_hex2 (s : State) (sl : Slot) {x : RxState} (hx : x.checksummed = true) (pay : BitVec 5)
    (acc v : Byte) :
    (s.inFrame sl x 0 pay acc).rxBytes (hex2 v) =
      fieldRule x (s.inFrame { sl with crcCalc := crc16 sl.crcCalc (hex2 v) } x 1 pay (v &&& 0xF0))
        (v.extractLsb' 0 4) := by
  have hfirst := fieldRule_of_first hx (s := s.inFrame
    { sl with crcCalc := crc16Update sl.crcCalc (nib2hex (v.extractLsb' 4 4)) } x 0 pay acc) rfl (v.extractLsb' 4 4)
  rw [highNibble_eq] at hfirst
  rw [hex2, State.rxBytes_cons, State.inFrame_rxByte_nib2hex s sl hx, hfirst]
  exact State.inFrame_rxByte_nib2hex s _ hx 1 pay (v &&& 0xF0) (v.extractLsb' 0 4)

/-- The packet number (R133). -/
theorem State.inFrame_rxBytes_vpn (s : State) (sl : Slot) (pay : BitVec 5) (acc v : Byte) :
    (s.inFrame sl .vpn 0 pay acc).rxBytes (hex2 v) =
      s.inFrame { sl with pn := v, crcCalc := crc16 sl.crcCalc (hex2 v) } .vcmd 0 pay (v &&& 0xF0) := by
  rw [State.inFrame_rxBytes_hex2 s sl rfl, fieldRule, State.rxVpn_of_second (by rw [State.inFrame_nibCnt]; decide),
    State.inFrame_rxIdx, State.inFrame_modSlot, State.inFrame_acc, joinNibbles_eq]
  rfl

/-- A valid command id (R135). -/
theorem State.inFrame_rxBytes_vcmd (s : State) (sl : Slot) (pay : BitVec 5) (acc : Byte) {v : Byte}
    (hv : invalidId s.cfg v = false) :
    (s.inFrame sl .vcmd 0 pay acc).rxBytes (hex2 v) =
      (s.inFrame { sl with cmd := v, crcCalc := crc16 sl.crcCalc (hex2 v) } .vcmd 0 pay (v &&& 0xF0)).rxFieldChoice := by
  rw [State.inFrame_rxBytes_hex2 s sl rfl, fieldRule, State.rxVcmd_of_valid (by rw [State.inFrame_nibCnt]; decide)
    (by rw [State.inFrame_acc, joinNibbles_eq]; exact hv), State.inFrame_rxIdx, State.inFrame_modSlot, State.inFrame_acc,
    joinNibbles_eq]
  rfl

/-- A payload byte (R138). -/
theorem State.inFrame_rxBytes_vpay (s : State) (sl : Slot) (pay : BitVec 5) (acc v : Byte) :
    (s.inFrame sl .vpay 0 pay acc).rxBytes (hex2 v) =
      (s.inFrame { sl with payload := sl.payload.setIfInBounds pay.toNat v, crcCalc := crc16 sl.crcCalc (hex2 v) }
        .vpay 0 (pay + 1) (v &&& 0xF0)).payloadByteStored := by
  rw [State.inFrame_rxBytes_hex2 s sl rfl, fieldRule, State.rxVpay_of_second (by rw [State.inFrame_nibCnt]; decide),
    State.inFrame_acc, joinNibbles_eq]
  congr 1
  exact congrArg (fun t : State => ({ t with payCnt := pay + 1 } : State))
    (s.inFrame_modSlot _ .vpay 0 pay (v &&& 0xF0) fun sl => { sl with payload := sl.payload.setIfInBounds pay.toNat v })

/-! ### The catalog's ids (R91, R92) -/

theorem cmdOf_cmdId {cfg : Config} (h : catalogLegal cfg = true) (c : Cmd) : cmdOf cfg (cmdId cfg c) = some c := by
  have hc := List.all_eq_true.mp h c (by cases c <;> decide)
  simp only [Bool.and_eq_true, beq_iff_eq] at hc
  exact hc.1

theorem invalidId_cmdId {cfg : Config} (h : catalogLegal cfg = true) (c : Cmd) : invalidId cfg (cmdId cfg c) = false := by
  have hc := List.all_eq_true.mp h c (by cases c <;> decide)
  simp only [Bool.and_eq_true, Bool.not_eq_true'] at hc
  exact hc.2

theorem reqLen_cmdId {cfg : Config} (h : catalogLegal cfg = true) (c : Cmd) : reqLen cfg (cmdId cfg c) = c.reqLen := by
  rw [reqLen, cmdOf_cmdId h]

/-! ### The payload -/

theorem crc16_append (init : Half) (as bs : List Byte) : crc16 init (as ++ bs) = crc16 (crc16 init as) bs :=
  List.foldl_append

/-- A payload of `REQ_LEN` bytes, stored in arrival order and validated after the last (R138). -/
theorem State.inFrame_rxBytes_payload (s : State) (b : Byte) (bs : List Byte) (sl : Slot) (pay : BitVec 5) (acc : Byte)
    (hlen : pay.toNat + (b :: bs).length = reqLen s.cfg sl.cmd) :
    (s.inFrame sl .vpay 0 pay acc).rxBytes ((b :: bs).flatMap hex2) =
      (s.inFrame
        { sl with
          payload := overwrite sl.payload pay.toNat (b :: bs)
          crcCalc := crc16 sl.crcCalc ((b :: bs).flatMap hex2) }
        .vpay 0 (pay + BitVec.ofNat 5 (b :: bs).length) (bs.getLastD b &&& 0xF0)).payloadByteStored := by
  induction bs generalizing b sl pay acc with
  | nil =>
    rw [List.flatMap_cons, List.flatMap_nil, List.append_nil, State.inFrame_rxBytes_vpay]
    rfl
  | cons c cs ih =>
    have hle := reqLen_le s.cfg sl.cmd
    simp only [List.length_cons] at hlen ih
    have hpay : (pay + 1).toNat = pay.toNat + 1 := by bv_omega
    have hsum : pay + 1 + BitVec.ofNat 5 (cs.length + 1) = pay + BitVec.ofNat 5 (cs.length + 1 + 1) := by bv_omega
    have hmore : (pay + 1).toNat ≠ reqLen s.cfg sl.cmd := by omega
    have hrest : (pay + 1).toNat + (cs.length + 1) = reqLen s.cfg sl.cmd := by omega
    have hnext := ih c
      { sl with payload := sl.payload.setIfInBounds pay.toNat b, crcCalc := crc16 sl.crcCalc (hex2 b) }
      (pay + 1) (b &&& 0xF0) hrest
    rw [hpay, hsum, ← crc16_append] at hnext
    rw [List.flatMap_cons, State.rxBytes_append, State.inFrame_rxBytes_vpay,
      State.payloadByteStored_of_more (by rw [State.inFrame_rxSlot]; exact hmore), hnext, List.getLastD_cons]
    rfl

/-! ### The frame up to its CRC field -/

/-- `STX`, the packet number and the command id (R127, R133, R135). -/
theorem State.rxBytes_header {s : State} (hacc : s.accepts) (pn : Byte) {id : Byte} (hid : invalidId s.cfg id = false) :
    s.rxBytes (STX :: (hex2 pn ++ hex2 id)) =
      (s.inFrame
        { Slot.cleared s.cfg.crcInit with pn := pn, cmd := id, crcCalc := crc16 s.cfg.crcInit (hex2 pn ++ hex2 id) }
        .vcmd 0 s.payCnt (id &&& 0xF0)).rxFieldChoice := by
  rw [State.rxBytes_cons, State.rxByte_stx hacc, State.rxBytes_append, State.inFrame_rxBytes_vpn,
    State.inFrame_rxBytes_vcmd _ _ _ _ hid, crc16_append]
  rfl

/-- A command without payload is parsed with its id (R137). -/
theorem State.rxBytes_body_of_no_payload {s : State} (hacc : s.accepts) (pn : Byte) {id : Byte}
    (hid : invalidId s.cfg id = false) (hlen : reqLen s.cfg id = 0) :
    s.rxBytes (STX :: frameBody pn id []) = s.parsed pn id [] := by
  rw [frameBody, List.flatMap_nil, List.append_nil, State.rxBytes_header hacc pn hid,
    State.rxFieldChoice_of_no_payload (by rw [State.inFrame_rxSlot]; exact hlen), State.inFrame_toCrcField,
    State.parsed_eq_inFrame, frameBody, List.flatMap_nil, List.append_nil]
  rfl

/-- The state of a frame whose last payload byte has been stored, its validator not yet run. -/
def State.payloadStored (s : State) (pn id : Byte) (payload : List Byte) : State :=
  s.inFrame
    { Slot.cleared s.cfg.crcInit with
      cmd := id
      pn := pn
      payload := slotPayload payload
      crcCalc := crc16 s.cfg.crcInit (frameBody pn id payload) }
    .vpay 0 (BitVec.ofNat 5 payload.length) (payload.getLastD id &&& 0xF0)

theorem State.rxBytes_body_of_payload {s : State} (hacc : s.accepts) (pn : Byte) {id : Byte}
    (hid : invalidId s.cfg id = false) {p : List Byte} (hne : p ≠ []) (hlen : p.length = reqLen s.cfg id) :
    s.rxBytes (STX :: frameBody pn id p) = (s.payloadStored pn id p).payloadByteStored := by
  obtain ⟨b, bs, rfl⟩ := List.exists_cons_of_ne_nil hne
  have hpos : reqLen s.cfg id ≠ 0 := by
    rw [← hlen]
    exact Nat.succ_ne_zero _
  have hpayload := State.inFrame_rxBytes_payload s b bs
    { Slot.cleared s.cfg.crcInit with pn := pn, cmd := id, crcCalc := crc16 s.cfg.crcInit (hex2 pn ++ hex2 id) } 0
    (id &&& 0xF0) (by rw [← hlen]; exact Nat.zero_add _)
  rw [← crc16_append, zero_add] at hpayload
  rw [frameBody, ← List.cons_append, State.rxBytes_append, State.rxBytes_header hacc pn hid,
    State.rxFieldChoice_of_payload (by rw [State.inFrame_rxSlot]; exact hpos)]
  rw [State.payloadStored, List.getLastD_cons]
  exact hpayload

theorem State.payloadStored_toCrcField (s : State) (pn id : Byte) {p : List Byte} (hp : p.length ≠ 0) :
    (s.payloadStored pn id p).toCrcField = s.parsed pn id p := by
  rw [State.payloadStored, State.inFrame_toCrcField, State.parsed_eq_inFrame, if_neg hp]
  rfl

theorem State.payloadStored_errorPath (s : State) (pn id : Byte) {p : List Byte} (hp : p.length ≠ 0) :
    (s.payloadStored pn id p).errorPath = (s.parsed pn id p).errorPath := by
  rw [State.parsed_eq_inFrame, if_neg hp]
  exact s.inFrame_errorPath _ _ _ _ _ _

theorem State.payloadStored_rxSlot (s : State) (pn id : Byte) (p : List Byte) :
    (s.payloadStored pn id p).rxSlot.cmd = id ∧ (s.payloadStored pn id p).rxSlot.payload = slotPayload p := by
  rw [State.payloadStored, State.inFrame_rxSlot]
  exact ⟨rfl, rfl⟩

/-- All bytes of the payload are counted. -/
theorem State.payloadStored_complete (s : State) (pn : Byte) {id : Byte} {p : List Byte} (hlen : p.length = reqLen s.cfg id) :
    (s.payloadStored pn id p).payCnt.toNat =
      reqLen (s.payloadStored pn id p).cfg (s.payloadStored pn id p).rxSlot.cmd := by
  have hle := reqLen_le s.cfg id
  rw [(s.payloadStored_rxSlot pn id p).1]
  change (BitVec.ofNat 5 p.length).toNat = reqLen s.cfg id
  rw [BitVec.toNat_ofNat]
  omega

section

variable {s : State} {c : Cmd} {p : List Byte}

/-- A frame whose payload is accepted is parsed up to its CRC field. -/
theorem State.rxBytes_body_of_valid (hcat : catalogLegal s.cfg = true) (hacc : s.accepts) (pn : Byte)
    (hlen : p.length = c.reqLen) (hv : requestValid s.cfg c p) :
    s.rxBytes (STX :: frameBody pn (cmdId s.cfg c) p) = s.parsed pn (cmdId s.cfg c) p := by
  have hid := invalidId_cmdId hcat c
  rw [← reqLen_cmdId hcat c] at hlen
  by_cases hp : p = []
  · subst hp
    exact State.rxBytes_body_of_no_payload hacc pn hid hlen.symm
  · have hpos : p.length ≠ 0 := mt List.length_eq_zero_iff.mp hp
    obtain ⟨hcmd, hpayload⟩ := s.payloadStored_rxSlot pn (cmdId s.cfg c) p
    have hval := hv.resolve_left (by rwa [← reqLen_cmdId hcat c, ← hlen])
    rw [State.rxBytes_body_of_payload hacc pn hid hp hlen,
      State.payloadByteStored_of_valid (s.payloadStored_complete pn hlen) (by rw [hcmd, hpayload]; exact hval),
      s.payloadStored_toCrcField _ _ hpos]

/-- A frame whose payload is rejected takes the error path there. -/
theorem State.rxBytes_body_of_rejected (hcat : catalogLegal s.cfg = true) (hacc : s.accepts) (pn : Byte)
    (hlen : p.length = c.reqLen) (hv : ¬requestValid s.cfg c p) :
    s.rxBytes (STX :: frameBody pn (cmdId s.cfg c) p) = (s.parsed pn (cmdId s.cfg c) p).errorPath := by
  obtain ⟨hpos, hval⟩ := not_or.mp hv
  rw [← hlen] at hpos
  rw [← reqLen_cmdId hcat c] at hlen
  obtain ⟨hcmd, hpayload⟩ := s.payloadStored_rxSlot pn (cmdId s.cfg c) p
  rw [State.rxBytes_body_of_payload hacc pn (invalidId_cmdId hcat c) (mt List.length_eq_zero_iff.mpr hpos) hlen,
    State.payloadByteStored_of_rejected (s.payloadStored_complete pn hlen)
      (by rw [hcmd, hpayload]; exact Bool.eq_false_iff.mpr hval),
    s.payloadStored_errorPath _ _ hpos]

end

/-! ### The CRC field (R140) -/

/-- The four digits of a half word, shifted in from the most significant, are the half word, whatever stood there. -/
theorem shiftIn_hex4_digits (r v : Half) :
    ((((r <<< 4 ||| (v.extractLsb' 12 4).zeroExtend 16) <<< 4 ||| (v.extractLsb' 8 4).zeroExtend 16) <<< 4 |||
      (v.extractLsb' 4 4).zeroExtend 16) <<< 4 ||| (v.extractLsb' 0 4).zeroExtend 16) = v := by
  ext i hi
  interval_cases i <;> simp

theorem State.inFrame_shiftCrcDigit (s : State) (sl : Slot) (nib : BitVec 2) (pay : BitVec 5) (acc : Byte) (n : Nibble) :
    (s.inFrame sl .vcrc nib pay acc).shiftCrcDigit n =
      s.inFrame { sl with crcRx := (sl.crcRx <<< 4) ||| n.zeroExtend 16 } .vcrc (nib + 1) pay acc := by
  rw [State.shiftCrcDigit, State.inFrame_rxIdx, State.inFrame_modSlot]
  rfl

theorem State.inFrame_rxByte_crcDigit (s : State) (sl : Slot) (nib : BitVec 2) (pay : BitVec 5) (acc : Byte) (n : Nibble) :
    (s.inFrame sl .vcrc nib pay acc).rxByte (nib2hex n) = (s.inFrame sl .vcrc nib pay acc).rxVcrc n := by
  rw [State.rxByte_nib2hex (by rw [State.inFrame_rxState]; decide), State.rxCrc_of_not_checksummed rfl]
  rfl

/-- A digit before the fourth. -/
theorem State.inFrame_rxByte_crcDigit_of_more (s : State) (sl : Slot) {nib : BitVec 2} (hnib : nib ≠ 3) (pay : BitVec 5)
    (acc : Byte) (n : Nibble) :
    (s.inFrame sl .vcrc nib pay acc).rxByte (nib2hex n) =
      s.inFrame { sl with crcRx := (sl.crcRx <<< 4) ||| n.zeroExtend 16 } .vcrc (nib + 1) pay acc := by
  rw [State.inFrame_rxByte_crcDigit, State.rxVcrc_of_more (by exact hnib), State.inFrame_shiftCrcDigit]

/-- The four digits of the CRC field, compared with the running CRC. -/
theorem State.inFrame_rxBytes_hex4 (s : State) (sl : Slot) (pay : BitVec 5) (acc : Byte) (v : Half) :
    (s.inFrame sl .vcrc 0 pay acc).rxBytes (hex4 v) =
      if v = sl.crcCalc then s.inFrame { sl with crcRx := v } .vf 0 pay acc
      else (s.inFrame { sl with crcRx := v } .vf 0 pay acc).errorPath := by
  rw [hex4, State.rxBytes_cons, State.inFrame_rxByte_crcDigit_of_more _ _ (by decide), State.rxBytes_cons,
    State.inFrame_rxByte_crcDigit_of_more _ _ (by decide), State.rxBytes_cons,
    State.inFrame_rxByte_crcDigit_of_more _ _ (by decide), State.rxBytes_cons, State.inFrame_rxByte_crcDigit,
    State.rxVcrc_of_fourth rfl, State.inFrame_shiftCrcDigit, State.inFrame_rxSlot, shiftIn_hex4_digits,
    State.inFrame_errorPath (y := .vf)]
  rfl

/-! ### What follows an error is noise (R128) -/

/-- With no frame open and no `STX` in them, bytes change nothing. -/
theorem State.rxBytes_noise {s : State} (hvf : s.rxState = .vf) (hd : s.delim = false) {bs : List Byte} (h : STX ∉ bs) :
    s.rxBytes bs = s := by
  induction bs with
  | nil => rfl
  | cons b bs ih =>
    obtain ⟨hb, hbs⟩ := not_or.mp (mt List.mem_cons.mpr h)
    have hnoise : s.rxByte b = s := by
      rw [State.rxByte_of_vf hvf, if_neg fun hstx => hb hstx.1.symm, if_neg (by simp [hd]), State.rxNoise, ← hd]
    rw [State.rxBytes_cons, hnoise, ih hbs]

theorem State.errorPath_rxBytes (s : State) {bs : List Byte} (h : STX ∉ bs) : s.errorPath.rxBytes bs = s.errorPath :=
  State.rxBytes_noise rfl rfl h

theorem stx_not_mem_hex4 (v : Half) : STX ∉ hex4 v := by
  simp [hex4, (nib2hex_ne_delimiter _).1.symm]

theorem stx_not_mem_trailer : STX ∉ [ETX, NUL] := by decide

theorem frameBytes_eq_append (pn cmd : Byte) (p : List Byte) (crc : Half) :
    frameBytes pn cmd p crc = (STX :: frameBody pn cmd p) ++ (hex4 crc ++ [ETX, NUL]) := by
  simp [frameBytes, frameTail]

/-! ### O35 and O36 -/

/-- A request-frame row receives its frame, whose payload has its command's length (R85, R91). -/
theorem exec_of_request {i : Instr} {c : Cmd} {pn : Byte} {p : List Byte} {crc : Half}
    (h : i.request = some (c, pn, p, crc)) (s : State) :
    p.length = c.reqLen ∧ exec i s = .next (s.rxBytes (frameBytes pn (cmdId s.cfg c) p crc)) := by
  cases i with
  | rdkeys | setbl | clrdsp | setlang | getver | buzparam | buzctrl =>
    cases h
    exact ⟨rfl, rfl⟩
  | wrline =>
    cases h
    exact ⟨Vector.length_toList, rfl⟩
  | _ => cases h

theorem State.received_eq_inFrame (s : State) (pn id : Byte) (payload : List Byte) (crc : Half) :
    s.received pn id payload crc =
      s.inFrame
        { Slot.cleared s.cfg.crcInit with
          cmd := id
          pn := pn
          payload := slotPayload payload
          crcRx := crc
          crcCalc := crc16 s.cfg.crcInit (frameBody pn id payload) }
        .vf 0 (if payload.length = 0 then s.payCnt else BitVec.ofNat 5 payload.length)
        (payload.getLastD id &&& 0xF0) := by
  rw [State.received, State.parsed_eq_inFrame, State.inFrame_modSlot]
  rfl

/-- The CRC field of a parsed frame: awaiting `ETX`, or the error path (R140). -/
theorem State.parsed_rxBytes_hex4 (s : State) (pn id : Byte) (p : List Byte) (crc : Half) :
    (s.parsed pn id p).rxBytes (hex4 crc) =
      if crc = crc16 s.cfg.crcInit (frameBody pn id p) then s.received pn id p crc
      else (s.received pn id p crc).errorPath := by
  rw [State.parsed_eq_inFrame, State.inFrame_rxBytes_hex4, State.received_eq_inFrame]

/-- Settles O35: the frame is parsed, the comparison at the fourth CRC digit fails, and what follows is noise. -/
theorem wrongCrcIsAnsweredWithErr : Obligations.WrongCrcIsAnsweredWithErr := by
  intro i c pn p crc s hi hcat hacc hv hcrc
  obtain ⟨hlen, hexec⟩ := exec_of_request hi s
  rw [hexec, frameBytes_eq_append, State.rxBytes_append, State.rxBytes_body_of_valid hcat hacc pn hlen hv,
    State.rxBytes_append, State.parsed_rxBytes_hex4, if_neg hcrc, State.errorPath_rxBytes _ stx_not_mem_trailer]
  rfl

/-- Settles O36: the error path at the last payload byte; the CRC field and what follows are noise. -/
theorem rejectedPayloadIsAnsweredWithErr : Obligations.RejectedPayloadIsAnsweredWithErr := by
  intro i c pn p crc s hi hcat hacc hv
  obtain ⟨hlen, hexec⟩ := exec_of_request hi s
  have hnoise : STX ∉ hex4 crc ++ [ETX, NUL] := fun h =>
    (List.mem_append.mp h).elim (stx_not_mem_hex4 crc) stx_not_mem_trailer
  rw [hexec, frameBytes_eq_append, State.rxBytes_append, State.rxBytes_body_of_rejected hcat hacc pn hlen hv,
    State.errorPath_rxBytes _ hnoise]
  rfl

end Sys2Proof.Machine

/-! The validators of the catalog and the dispatcher port (42_wire_commands.md R161 to R171): O22 and O39. -/

namespace Sys2Proof.Machine

/-! ### O22: `VALIDATE` (R161, R163, R165) -/

section

variable {cfg : Config} (h : catalogLegal cfg = true) (p : Vector Byte 20)

include h

theorem validate_of_unchecked {c : Cmd} (hc : c = .wrline ∨ c = .setbl ∨ c = .setlang) :
    validate cfg (cmdId cfg c) p = true := by
  unfold validate
  rw [cmdOf_cmdId h]
  rcases hc with rfl | rfl | rfl
  all_goals rfl

theorem validate_buzparam : validate cfg (cmdId cfg .buzparam) p = validateParam cfg p := by
  unfold validate
  rw [cmdOf_cmdId h]

theorem validate_buzctrl : validate cfg (cmdId cfg .buzctrl) p = validateCtrl cfg p := by
  unfold validate
  rw [cmdOf_cmdId h]

end

/-- R163 with the naturals of its limits. -/
theorem validateParam_eq (cfg : Config) (p : Vector Byte 20) :
    validateParam cfg p =
      let kind := p[cfg.buzTypeAt.val]
      let value := p[cfg.buzValueAt.val]
      if kind = cfg.buzFreq then decide (cfg.freqMin.toNat ≤ value.toNat ∧ value.toNat ≤ 0xC8)
      else if kind = cfg.buzDuty then decide (cfg.dutyMin.toNat ≤ value.toNat ∧ value.toNat ≤ cfg.dutyMax.toNat)
      else false := rfl

/-- R165 as one proposition. -/
theorem validateCtrl_eq (cfg : Config) (p : Vector Byte 20) :
    validateCtrl cfg p =
      let action := p[cfg.ctrlActionAt.val]
      decide ((action = cfg.actOff ∨ action = cfg.actOn ∨ action = cfg.actBeep) ∧ p[cfg.ctrlCyclesAt.val].toNat ≤ 63) := by
  have hle (b : Byte) : b ≤ CYCLES_MAX ↔ b.toNat ≤ 63 := Iff.rfl
  simp only [validateCtrl, hle, Bool.decide_and, Bool.decide_or, Bool.or_assoc, ← Bool.beq_eq_decide_eq]

theorem exec_validate (s : State) (id : Byte) (p : Vector Byte 20) :
    exec (.validate id p) s = .next (s.ret (.flag (validate s.cfg id p))) := exec_of_pureResult rfl

/-- Settles O22: each command's id names that command, so the rule of the command decides. -/
theorem validatorsOfTheCatalog : Obligations.ValidatorsOfTheCatalog := by
  intro s p hcat
  refine ⟨fun c hc => ?unchecked, ?param, ?ctrl⟩
  case unchecked => rw [exec_validate, validate_of_unchecked hcat p hc]; rfl
  case param => rw [exec_validate, validate_buzparam hcat p, validateParam_eq]; rfl
  case ctrl => rw [exec_validate, validate_buzctrl hcat p, validateCtrl_eq]; rfl

/-! ### O39: the dispatcher port (R170, R171) -/

/-- An answer of the environment's dispatcher: its rendering calls, then `RESP_LEN[id]` bytes (R170). -/
theorem State.dispatch_of_reply {s : State} {r : Reply} {rest : List Reply} (h : s.replies = r :: rest) (id : Byte)
    (p : List Byte) :
    s.dispatch id p =
      (r.calls.foldl State.runCall { s with replies := rest, out := s.out ++ [.dispatch id p] },
        r.resp.toList.take (respLen s.cfg id)) := by
  unfold State.dispatch
  simp only [State.emit_replies, h]
  rfl

/-- With no answer waiting the reference binding answers. -/
theorem State.dispatch_of_no_reply {s : State} (h : s.replies = []) (id : Byte) (p : List Byte) :
    s.dispatch id p = (s.emit (.dispatch id p)).referenceDispatch id p := by
  unfold State.dispatch
  simp only [State.emit_replies, h]

/-- The payload bytes from place `k` to the end: none of them is missing (log 18). -/
theorem map_payloadByte (id : Byte) (p : List Byte) {k n : Nat} (h : k + n = p.length) :
    ((List.range n).map fun j => payloadByte id p (j + k)) = p.drop k := by
  refine List.ext_getElem (by simp; omega) fun j hj _ => ?_
  rw [List.length_map, List.length_range] at hj
  have hlt : j + k < p.length := by omega
  simp only [List.getElem_map, List.getElem_range, List.getElem_drop, Nat.add_comm k j]
  exact payloadByte_of_lt id p (j + k) hlt

/-- A write-line payload is the line, then the 19 bytes of the text (R171). -/
theorem writeLine_operands (id : Byte) {p : List Byte} (h : p.length = 20) :
    ((List.range LINE_BUDGET).map fun k => payloadByte id p (k + 1)) = p.tail ∧ payloadByte id p 0 = p.headD 0 := by
  refine ⟨(map_payloadByte id p (by rw [h]; rfl)).trans List.drop_one, ?_⟩
  cases p with
  | nil => cases h
  | cons b bs => rfl

/-- A buzzer-param payload is answered as it came (R171). -/
theorem buzParam_answer (id : Byte) {p : List Byte} (h : p.length = 2) : [payloadByte id p 0, payloadByte id p 1] = p :=
  map_payloadByte id p (k := 0) (n := 2) (by omega)

/-- What the reference binding does with a command called with its whole payload (R171). -/
def State.referenceAnswer (s : State) (c : Cmd) (p : List Byte) : State × List Byte :=
  match c with
  | .rdkeys => ({ s with keyReads := s.keyReads + 1 }, [Config.keyByte s.keyReads])
  | .wrline => ((s.putLine p.tail (p.headD 0).toNat).1, [])
  | .clrdsp => (s.fbClear, [])
  | .getver => (s, [s.cfg.version.extractLsb' 8 8, s.cfg.version.extractLsb' 0 8])
  | .buzparam => (s, p)
  | .setbl | .setlang | .buzctrl => (s, [])

/-- Under a legal catalog a command's id is answered as that command; only write-line and buzzer-param read their payload. -/
theorem State.referenceDispatch_cmdId {s : State} (hcat : catalogLegal s.cfg = true) {c : Cmd} {p : List Byte}
    (hw : c = .wrline → p.length = 20) (hb : c = .buzparam → p.length = 2) :
    s.referenceDispatch (cmdId s.cfg c) p = s.referenceAnswer c p := by
  unfold State.referenceDispatch
  rw [cmdOf_cmdId hcat]
  cases c with
  | wrline =>
    obtain ⟨htext, hline⟩ := writeLine_operands (cmdId s.cfg .wrline) (hw rfl)
    dsimp only
    rw [htext, hline]
    rfl
  | buzparam =>
    dsimp only
    rw [buzParam_answer _ (hb rfl)]
    rfl
  | rdkeys | setbl | clrdsp | setlang | getver | buzctrl => rfl

theorem exec_dispatch (s : State) (id : Byte) (p : List Byte) :
    exec (.dispatch id p) s = .next ((s.dispatch id p).1.ret (.bytes (s.dispatch id p).2)) := rfl

/-- Settles O39: the queued answer, and the reference binding command by command. -/
theorem dispatcherPort : Obligations.DispatcherPort := by
  refine ⟨fun s id p r rest h => ?reply, fun s p hcat h => ?reference⟩
  case reply => rw [exec_dispatch, State.dispatch_of_reply h]
  case reference =>
    have hrun (c : Cmd) (hw : c = .wrline → p.length = 20) (hb : c = .buzparam → p.length = 2) :
        exec (.dispatch (cmdId s.cfg c) p) s =
          let r := (s.emit (.dispatch (cmdId s.cfg c) p)).referenceAnswer c p
          .next (r.1.ret (.bytes r.2)) := by
      have href := State.referenceDispatch_cmdId (s := s.emit (.dispatch (cmdId s.cfg c) p)) hcat hw hb
      rw [State.emit_cfg] at href
      rw [exec_dispatch, State.dispatch_of_no_reply h, href]
    exact ⟨hrun .rdkeys nofun nofun, fun hp => hrun .wrline (fun _ => hp) nofun, hrun .clrdsp nofun nofun,
      hrun .getver nofun nofun, fun hp => hrun .buzparam nofun fun _ => hp, hrun .setbl nofun nofun,
      hrun .setlang nofun nofun, hrun .buzctrl nofun nofun⟩

end Sys2Proof.Machine

/-! A good request frame to its end (42_wire_commands.md R155; 41_rx_state_machine.md R129): the dispatch and the arming,
O34. -/

namespace Sys2Proof.Machine

/-! ### The slot of a received frame -/

/-- The payload of a slot begins with what was received (R24). -/
theorem slotPayload_take {p : List Byte} (h : p.length ≤ 20) : (slotPayload p).toList.take p.length = p := by
  rw [slotPayload, overwrite_toList p _ 0 (by omega), List.take_zero, List.nil_append, List.take_left]

section

variable (s : State) (pn id : Byte) (p : List Byte) (crc : Half)

/-- The decoded values, after the CRC field (R133 to R140). -/
theorem State.received_slot :
    (s.received pn id p crc).slot s.rxTarget =
      { Slot.cleared s.cfg.crcInit with
        cmd := id
        pn := pn
        payload := slotPayload p
        crcRx := crc
        crcCalc := crc16 s.cfg.crcInit (frameBody pn id p) } := by
  rw [State.received_eq_inFrame, State.inFrame_slot]

theorem State.received_slot_other {j : Fin 3} (h : j ≠ s.rxTarget) : (s.received pn id p crc).slot j = s.slot j := by
  rw [State.received_eq_inFrame]
  exact Vector.getElem_set_ne s.rxTarget.isLt j.isLt fun e => h (Fin.ext e.symm)

theorem State.received_rxSlot : (s.received pn id p crc).rxSlot = (s.received pn id p crc).slot s.rxTarget := rfl

theorem State.received_rxPayload (hlen : p.length = reqLen s.cfg id) : (s.received pn id p crc).rxPayload = p := by
  have hle := reqLen_le s.cfg id
  have hcfg : (s.received pn id p crc).cfg = s.cfg := rfl
  rw [State.rxPayload, State.received_rxSlot, State.received_slot, hcfg, ← hlen]
  exact slotPayload_take (by omega)

/-- The dispatch of a received frame, its answer stored in the slot (R129). -/
theorem State.received_rxDispatch (hlen : p.length = reqLen s.cfg id) :
    (s.received pn id p crc).rxDispatch =
      ((s.received pn id p crc).dispatch id p).1.modSlot s.rxTarget fun sl =>
        { sl with resp := overwrite sl.resp 0 ((s.received pn id p crc).dispatch id p).2 } := by
  have hcmd : (s.received pn id p crc).rxSlot.cmd = id := by rw [State.received_rxSlot, State.received_slot]
  rw [State.rxDispatch, hcmd, s.received_rxPayload pn id p crc hlen]
  rfl

end

/-! ### The end of the frame -/

/-- `ETX` dispatches and arms, and the pad after it is noise (R128, R129). -/
theorem State.rxBytes_trailer_of_good {s : State} (hvf : s.rxState = .vf) (hd : s.delim = true)
    (herr : s.rxSlot.err = false) : s.rxBytes [ETX, NUL] = { s.rxDispatch.arm s.rxIdx with delim := false } := by
  have hetx : s.rxByte ETX = s.rxEtx := by
    rw [State.rxByte_of_vf hvf, if_neg (by simp [hd]), if_pos ⟨rfl, hd⟩]
  have hpad : STX ∉ [NUL] := by decide
  rw [State.rxBytes_cons, hetx, State.rxBytes_noise (s.rxEtx_rxState.trans hvf) rfl hpad, State.rxEtx_of_good herr]

/-- Settles O34: the frame is parsed, the CRC field agrees, `ETX` dispatches and arms. -/
theorem goodFrameIsDispatchedAndArmed : Obligations.GoodFrameIsDispatchedAndArmed := by
  intro i c pn p crc s hi hcat hacc hv hcrc u r
  obtain ⟨hlen, hexec⟩ := exec_of_request hi s
  have hreq : p.length = reqLen s.cfg (cmdId s.cfg c) := hlen.trans (reqLen_cmdId hcat c).symm
  have herr : u.rxSlot.err = false := by
    rw [State.received_rxSlot, State.received_slot]
    rfl
  rw [hexec, frameBytes_eq_append, State.rxBytes_append, State.rxBytes_body_of_valid hcat hacc pn hlen hv,
    State.rxBytes_append, State.parsed_rxBytes_hex4, if_pos hcrc, State.rxBytes_trailer_of_good rfl rfl herr,
    State.received_rxDispatch _ _ _ _ _ hreq]
  rfl

end Sys2Proof.Machine

/-! A response streamed to its end (43_tx_state_machine.md R184, R185, R187): one byte of `tx_buf` for each `TX_DONE`. -/

namespace Sys2Proof.Machine

/-- What `tx_buf` holds while a byte is streamed: at cursor 1 the response is formatted first (R184). -/
def State.streamBuf (s : State) : Vector Byte 14 :=
  if s.txCursor = 1 then overwrite s.txBuf 0 (responseBytes s.cfg (s.slot s.txIdx)) else s.txBuf

@[simp] theorem State.setBusy_streamBuf (s : State) (v : Bool) : (s.setBusy v).streamBuf = s.streamBuf := rfl

theorem State.txFormatted_txBuf (s : State) : s.txFormatted.1.txBuf = s.txBuf := by
  unfold State.txFormatted
  dsimp only
  split
  · rfl
  · rfl

theorem State.txStream_txBuf (s : State) : s.txStream.1.txBuf = s.streamBuf := by
  rw [State.txStream_eq, State.txFormatted_txBuf, apply_ite State.txBuf, State.txFill_txBuf, State.streamBuf]

theorem State.txFormatted_byte (s : State) : s.txFormatted.2 = some (s.txBuf[(s.txCursor - 1).toNat]?.getD 0) := rfl

/-- The byte under the cursor (R187). -/
theorem State.txStream_byte (s : State) : s.txStream.2 = some (s.streamBuf[(s.txCursor - 1).toNat]?.getD 0) := by
  rw [State.txStream_eq, State.txFormatted_byte, State.streamBuf]
  by_cases hc : s.txCursor = 1
  · rw [if_pos hc, if_pos hc, State.txFill_txBuf, State.txFill_txCursor]
  · rw [if_neg hc, if_neg hc]

theorem State.txStream_out (s : State) : s.txStream.1.out = s.out := by rw [State.txStream_frame]

theorem State.txNext_of_sending {s : State} (hsend : (s.slot s.txIdx).ack = .sending) : s.txNext = s.txStream := by
  rcases s.txNext_cases with ⟨hidle, -, -⟩ | ⟨i, harmed, hi, -⟩ | ⟨-, h⟩
  · rw [hsend] at hidle
    cases hidle
  · rcases hi with rfl | ⟨hidle, -⟩
    · cases hsend.symm.trans harmed
    · rw [hsend] at hidle
      cases hidle
  · exact h

/-- A completion puts out the byte under the cursor of the slot being sent (R187 to R189). -/
theorem State.txDone_eq_of_sending {s : State} (hsend : (s.slot s.txIdx).ack = .sending) :
    s.txDone = (s.setBusy false).txStream.1.txPut (s.streamBuf[(s.txCursor - 1).toNat]?.getD 0) := by
  have hnext : (s.setBusy false).txNext =
      ((s.setBusy false).txStream.1, some (s.streamBuf[(s.txCursor - 1).toNat]?.getD 0)) :=
    (State.txNext_of_sending (s := s.setBusy false) hsend).trans (Prod.ext rfl (s.setBusy false).txStream_byte)
  rw [State.txDone, State.txPump, hnext]

/-- The bytes of `tx_buf` from the cursor on. -/
def State.toStream (s : State) : List Byte := s.streamBuf.toList.drop (s.txCursor.toNat - 1)

/-- A completion puts out the first of them. -/
theorem State.txDone_out {s : State} (hsend : (s.slot s.txIdx).ack = .sending) (hcur : s.cursorOk) :
    s.txDone.out = s.out ++ (s.toStream.take 1).map Output.txPut := by
  obtain ⟨hlow, hmid, hhigh⟩ := hcur.bounds hsend
  have hprev : (s.txCursor - 1).toNat = s.txCursor.toNat - 1 := by bv_omega
  have hbuf : s.txCursor.toNat - 1 < 14 := by omega
  have hlt : s.txCursor.toNat - 1 < s.streamBuf.toList.length := by rwa [Vector.length_toList]
  rw [State.txDone_eq_of_sending hsend, State.txPut_out, State.txStream_out, State.setBusy_out, hprev,
    Vector.getElem?_eq_getElem hbuf, State.toStream, List.drop_eq_getElem_cons hlt]
  rfl

/-- Before the last byte the others are left. -/
theorem State.txDone_toStream {s : State} (hsend : (s.slot s.txIdx).ack = .sending) (hcur : s.cursorOk)
    (hmore : s.txCursor.toNat < s.streamLen.toNat) : s.txDone.toStream = s.toStream.drop 1 := by
  obtain ⟨-, -, hcursor, -⟩ := s.txDone_middle hsend hcur hmore
  obtain ⟨hlow, -, -⟩ := hcur.bounds hsend
  have hpast : s.txDone.txCursor ≠ 1 := fun e => by
    rw [e] at hcursor
    change 1 = s.txCursor.toNat + 1 at hcursor
    omega
  have hbuf : s.txDone.streamBuf = s.streamBuf := by
    rw [State.streamBuf, if_neg hpast, State.txDone_eq_of_sending hsend, State.txPut_txBuf, State.txStream_txBuf,
      State.setBusy_streamBuf]
  rw [State.toStream, State.toStream, hbuf, hcursor, List.drop_drop, Nat.add_sub_cancel, Nat.sub_add_cancel hlow]

/-- One completion a byte: `k` bytes before the last. -/
theorem State.out_of_sending (k : Nat) : ∀ s : State, (s.slot s.txIdx).ack = .sending → s.cursorOk →
    s.txCursor.toNat + k = s.streamLen.toNat →
      (State.txDone^[k + 1] s).out = s.out ++ (s.toStream.take (k + 1)).map Output.txPut := by
  induction k with
  | zero => exact fun s hsend hcur _ => State.txDone_out hsend hcur
  | succ k ih =>
    intro s hsend hcur hk
    have hmore : s.txCursor.toNat < s.streamLen.toNat := by omega
    obtain ⟨hidx, hslot, hcursor, hlen⟩ := s.txDone_middle hsend hcur hmore
    have hrest := ih s.txDone (by rw [hidx, hslot]; exact hsend) ((s.setBusy false).txPump_cursorOk hcur)
      (by rw [hcursor, hlen]; omega)
    rw [Function.iterate_succ_apply, hrest, State.txDone_out hsend hcur, State.txDone_toStream hsend hcur hmore,
      List.append_assoc, ← List.map_append, ← List.take_add, Nat.add_comm 1 (k + 1)]

/-! ### From the first byte of a slot -/

/-- The digits of `bs` are two each. -/
theorem length_flatMap_hex2 (bs : List Byte) : (bs.flatMap hex2).length = 2 * bs.length := by
  simp [List.length_flatMap, hex2, Nat.mul_comm]

theorem length_responseBytes (cfg : Config) (sl : Slot) :
    (responseBytes cfg sl).length = 10 + 2 * respLen cfg sl.cmd := by
  have hle := respLen_le cfg sl.cmd
  simp only [responseBytes, frameTail, frameBody, hex2, hex4, List.length_append, List.length_cons, List.length_nil,
    length_flatMap_hex2, List.length_take, Vector.length_toList]
  omega

theorem responseFrame_eq_cons (cfg : Config) (sl : Slot) :
    responseFrame cfg sl.pn sl.err sl.cmd (sl.resp.toList.take (respLen cfg sl.cmd)) = STX :: responseBytes cfg sl := rfl

theorem State.started_streamLen (s : State) (i : Fin 3) :
    (s.started i).streamLen.toNat = 10 + 2 * respLen s.cfg (s.slot i).cmd := by
  have hle := respLen_le s.cfg (s.slot i).cmd
  have hcmd : ((s.started i).slot i).cmd = (s.slot i).cmd := by rw [State.started_slot, State.slot_setAck, if_pos rfl]
  rw [State.streamLen, if_pos (s.started_txCursor i), State.started_txIdx, hcmd, BitVec.toNat_ofNat]
  change (10 + 2 * respLen s.cfg (s.slot i).cmd) % 16 = _
  omega

theorem State.started_toStream (s : State) (i : Fin 3) :
    (s.started i).toStream.take (10 + 2 * respLen s.cfg (s.slot i).cmd) = responseBytes s.cfg (s.slot i) := by
  have hle := respLen_le s.cfg (s.slot i).cmd
  have hlen := length_responseBytes s.cfg (s.slot i)
  have hbytes : responseBytes s.cfg ((s.started i).slot i) = responseBytes s.cfg (s.slot i) := by
    rw [State.started_slot, State.slot_setAck, if_pos rfl]
    rfl
  have hbuf : (s.started i).streamBuf = overwrite s.txBuf 0 (responseBytes s.cfg (s.slot i)) := by
    rw [← hbytes]
    exact if_pos (s.started_txCursor i)
  rw [State.toStream, hbuf, State.started_txCursor, overwrite_toList _ _ _ (by omega), ← hlen]
  exact List.take_left

/-- From its first byte on, `10 + 2m` completions put out the rest of the response of a slot, which is then `SENT`: with
the first byte, the whole response frame (R86, R185, R187). -/
theorem State.started_sent {s : State} {i : Fin 3} {sl : Slot} (hsl : s.slot i = sl) :
    (State.txDone^[10 + 2 * respLen s.cfg sl.cmd] (s.started i)).out =
      s.out ++ (responseFrame s.cfg sl.pn sl.err sl.cmd (sl.resp.toList.take (respLen s.cfg sl.cmd))).map Output.txPut ∧
    (s.started i).SentAfter (10 + 2 * respLen s.cfg sl.cmd) i := by
  subst hsl
  have hsend : ((s.started i).slot (s.started i).txIdx).ack = .sending := by
    rw [State.started_txIdx, State.started_slot, State.slot_setAck, if_pos rfl]
  have hcur : (s.started i).cursorOk := fun _ => .inl (s.started_txCursor i)
  have hlast : (s.started i).txCursor.toNat + (9 + 2 * respLen s.cfg (s.slot i).cmd) = (s.started i).streamLen.toNat := by
    rw [State.started_txCursor, State.started_streamLen]
    change 1 + _ = _
    omega
  have hcount : 10 + 2 * respLen s.cfg (s.slot i).cmd = 9 + 2 * respLen s.cfg (s.slot i).cmd + 1 := by omega
  have hout := State.out_of_sending _ _ hsend hcur hlast
  have hsent := State.sentAfter_of_sending _ _ hsend hcur hlast
  rw [← hcount] at hout hsent
  rw [State.started_toStream] at hout
  refine ⟨hout.trans ?_, hsent⟩
  rw [responseFrame_eq_cons]
  exact List.append_assoc s.out [.txPut STX] _

end Sys2Proof.Machine

/-! A good request frame answered (42_wire_commands.md R155): O38. With the transmitter idle the ring has room under `tx_idx`
or right after it, so the armed slot is started at once and streamed to its end. -/

namespace Sys2Proof.Machine

/-! ### The armed slot is started at once -/

/-- A pump starts an armed slot that is under `tx_idx`, or next to an idle one (R182, R183). -/
theorem State.txPump_eq_started {s : State} {i : Fin 3} (harmed : (s.slot i).ack = .toBeSend)
    (hi : i = s.txIdx ∨ (s.slot s.txIdx).ack.idle = true ∧ i = ringNext s.txIdx) : s.txPump = s.started i := by
  rcases hi with rfl | ⟨hidle, rfl⟩
  · exact s.txPump_of_armed (s.ackAhead_zero.trans harmed)
  · rcases s.txPump_cases with ⟨-, hnext, -⟩ | ⟨j, hj, rfl | ⟨-, rfl⟩, h⟩ | ⟨hsend, -, -⟩
    · exact absurd harmed hnext
    · rw [hj] at hidle
      cases hidle
    · exact h
    · rw [hsend] at hidle
      cases hidle

/-- With no byte in flight, the slot an `STX` steers to is the one under `tx_idx`, or the next one behind a sent one. -/
theorem State.rxTarget_of_idle {s : State} (hs : s.ringInv) (hidle : s.txBusy = false) :
    s.rxTarget = s.txIdx ∨ (s.slot s.txIdx).ack = .sent ∧ s.rxTarget = ringNext s.txIdx := by
  have hrx := s.add_rxAhead
  have hack := s.ackAhead_rxAhead
  rw [State.ringInv_iff, State.ringAt_iff] at hs
  rcases hs with ⟨h0, -, -, hk, -⟩ | ⟨⟨h0, h1, h2, hplace⟩, hbusy⟩
  · rw [hk, h0] at hack
    rw [hk, add_zero] at hrx
    exact .inl ((if_pos hack.symm).trans hrx.symm)
  · have hrest : ¬(s.ackAhead 0 = .sending ∨ s.ackAhead 1 = .toBeSend ∨ s.ackAhead 2 = .toBeSend) := fun h => by
      cases hidle.symm.trans (hbusy h)
    obtain ⟨hne0, hne1, hne2⟩ : s.ackAhead 0 ≠ .sending ∧ s.ackAhead 1 ≠ .toBeSend ∧ s.ackAhead 2 ≠ .toBeSend := by
      simpa only [not_or] using hrest
    have hsent := h0.resolve_left hne0
    refine .inr ⟨s.ackAhead_zero.symm.trans hsent, ?_⟩
    rcases hplace with ⟨hk, -⟩ | ⟨hk, -, hnot, -⟩ | ⟨-, -, -, harmed, -⟩
    · rw [hk, hsent] at hack
      rw [hk, add_zero] at hrx
      rw [State.rxTarget, ← hack, if_neg (by decide), ← hrx]
    · have hfree : s.ackAhead 1 = .notReady := by
        cases h : s.ackAhead 1 with
        | notReady => rfl
        | toBeSend => exact absurd h hne1
        | sending => exact absurd h h1
        | sent => exact absurd h hnot
      rw [hk, hfree] at hack
      rw [hk] at hrx
      exact (if_pos hack.symm).trans hrx.symm
    · exact absurd harmed hne1

/-! ### O38 -/

theorem respLen_cmdId {cfg : Config} (h : catalogLegal cfg = true) (c : Cmd) : respLen cfg (cmdId cfg c) = c.respLen := by
  rw [respLen, cmdOf_cmdId h]

/-- What a slot answers with: the dispatcher's bytes (R129, R185). -/
theorem overwrite_resp_take (v resp : Vector Byte 2) {m : Nat} (hm : m ≤ 2) :
    (overwrite v 0 (resp.toList.take m)).toList.take m = resp.toList.take m := by
  have hlen : (resp.toList.take m).length = m := by
    rw [List.length_take, Vector.length_toList, Nat.min_eq_left hm]
  rw [overwrite_toList _ _ _ (by omega), List.take_zero, List.nil_append]
  exact List.take_left' hlen

/-- The state of a good frame at its `ETX`, answered by a dispatcher that draws nothing, its slot armed and not yet pumped
(R129, R181). -/
def State.answered (s : State) (pn id : Byte) (p : List Byte) (crc : Half) (resp : List Byte) (more : List Reply) : State :=
  (({ s.received pn id p crc with replies := more, out := s.out ++ [.dispatch id p] } : State).modSlot s.rxTarget
    fun sl => { sl with resp := overwrite sl.resp 0 resp }).setAck s.rxTarget .toBeSend

section

variable (s : State) (pn id : Byte) (p : List Byte) (crc : Half) (resp : List Byte) (more : List Reply)

theorem State.answered_slot :
    (s.answered pn id p crc resp more).slot s.rxTarget =
      { Slot.cleared s.cfg.crcInit with
        cmd := id
        pn := pn
        payload := slotPayload p
        resp := overwrite (Vector.replicate 2 0) 0 resp
        crcRx := crc
        crcCalc := crc16 s.cfg.crcInit (frameBody pn id p)
        ack := .toBeSend } := by
  rw [State.answered, State.slot_setAck, if_pos rfl, State.slot_modSlot_same]
  exact congrArg (fun sl : Slot => ({ sl with resp := overwrite sl.resp 0 resp, ack := .toBeSend } : Slot))
    (s.received_slot pn id p crc)

theorem State.answered_slot_other {j : Fin 3} (h : j ≠ s.rxTarget) :
    (s.answered pn id p crc resp more).slot j = s.slot j := by
  rw [State.answered, State.slot_setAck, if_neg h, State.slot_modSlot_other _ _ _ _ h]
  exact (State.slot_congr (s.received pn id p crc) _ rfl j).trans (s.received_slot_other pn id p crc h)

/-- With the transmitter idle the slot is started at once. -/
theorem State.answered_txPump (hs : s.ringInv) (hidle : s.txBusy = false) :
    (s.answered pn id p crc resp more).txPump = (s.answered pn id p crc resp more).started s.rxTarget := by
  refine State.txPump_eq_started (by rw [State.answered_slot]) ?_
  rcases State.rxTarget_of_idle hs hidle with hsame | ⟨hsent, hnext⟩
  · exact .inl hsame
  · have hne : s.txIdx ≠ s.rxTarget := by simp [hnext, ringNext]
    refine .inr ⟨?_, hnext⟩
    change ((s.answered pn id p crc resp more).slot s.txIdx).ack.idle = true
    rw [s.answered_slot_other pn id p crc resp more hne, hsent]
    rfl

end

/-- A good frame with a dispatcher's answer waiting that draws nothing, the transmitter idle: the first byte of the
response is on the link. -/
theorem exec_of_answered_request {i : Instr} {c : Cmd} {pn : Byte} {p : List Byte} {crc : Half} {resp : Vector Byte 2}
    {more : List Reply} {s : State} (hi : i.request = some (c, pn, p, crc)) (hcat : catalogLegal s.cfg = true)
    (hacc : s.accepts) (hv : requestValid s.cfg c p) (hcrc : crc = crc16 s.cfg.crcInit (frameBody pn (cmdId s.cfg c) p))
    (hs : s.ringInv) (hidle : s.txBusy = false) (hreply : s.replies = { calls := [], resp := resp } :: more) :
    exec i s = .next (({ s.answered pn (cmdId s.cfg c) p crc (resp.toList.take c.respLen) more with
      delim := false } : State).started s.rxTarget) := by
  have hdispatch := State.dispatch_of_reply (s := s.received pn (cmdId s.cfg c) p crc) hreply (cmdId s.cfg c) p
  have hcfg : (s.received pn (cmdId s.cfg c) p crc).cfg = s.cfg := rfl
  rw [hcfg, respLen_cmdId hcat] at hdispatch
  have hexec := goodFrameIsDispatchedAndArmed i c pn p crc s hi hcat hacc hv hcrc
  dsimp only at hexec
  rw [hdispatch] at hexec
  rw [hexec, State.arm_of_idle (by exact Bool.eq_false_iff.mp hidle)]
  exact congrArg (fun t : State => Host.Outcome.next (φ := Fault) (ρ := Refusal) { t with delim := false })
    (s.answered_txPump pn (cmdId s.cfg c) p crc (resp.toList.take c.respLen) more hs hidle)

/-- Settles O38: the armed slot is started with the frame's `ETX`, and the completions stream the rest of its response. -/
theorem requestIsAnsweredOnce : Obligations.RequestIsAnsweredOnce := by
  intro i c pn p crc resp more s hi hcat hacc hv hcrc hs hidle hreply
  have hexec := exec_of_answered_request hi hcat hacc hv hcrc hs hidle hreply
  have hle := respLen_le s.cfg (cmdId s.cfg c)
  rw [respLen_cmdId hcat] at hle
  have hslot := s.answered_slot pn (cmdId s.cfg c) p crc (resp.toList.take c.respLen) more
  obtain ⟨hout, hsent⟩ := State.started_sent (s :=
    { s.answered pn (cmdId s.cfg c) p crc (resp.toList.take c.respLen) more with delim := false }) hslot
  have hcfg : (s.answered pn (cmdId s.cfg c) p crc (resp.toList.take c.respLen) more).cfg = s.cfg := rfl
  simp only [hcfg, respLen_cmdId hcat, overwrite_resp_take _ _ hle] at hout hsent
  exact ⟨_, _, hexec, execTimes_txDone _ _, hout, hsent.ack⟩

end Sys2Proof.Machine

/-! The response machine's rows (43_tx_state_machine.md R181 to R189): O40 to O43. -/

namespace Sys2Proof.Machine

/-! ### O43: a whole response (R183, R184, R187) -/

/-- Completions before the last byte leave the slots alone, and the slot being sent under `tx_idx`. -/
theorem State.slots_before_last (k : Nat) : ∀ s : State, (s.slot s.txIdx).ack = .sending → s.cursorOk →
    s.txCursor.toNat + k ≤ s.streamLen.toNat →
      (State.txDone^[k] s).txIdx = s.txIdx ∧ ∀ j, (State.txDone^[k] s).slot j = s.slot j := by
  induction k with
  | zero => exact fun s _ _ _ => ⟨rfl, fun _ => rfl⟩
  | succ k ih =>
    intro s hsend hcur hk
    obtain ⟨hidx, hslot, hcursor, hlen⟩ := s.txDone_middle hsend hcur (by omega)
    obtain ⟨hidx', hslot'⟩ := ih s.txDone (by rw [hidx, hslot]; exact hsend) ((s.setBusy false).txPump_cursorOk hcur)
      (by rw [hcursor, hlen]; omega)
    exact ⟨hidx'.trans hidx, fun j => (hslot' j).trans (hslot j)⟩

/-- From its first byte on, `9 + 2m` completions leave the slot under `tx_idx` and being sent. -/
theorem State.started_sending (s : State) (i : Fin 3) :
    (State.txDone^[9 + 2 * respLen s.cfg (s.slot i).cmd] (s.started i)).txIdx = i ∧
    ((State.txDone^[9 + 2 * respLen s.cfg (s.slot i).cmd] (s.started i)).slot i).ack = .sending := by
  have hsend : ((s.started i).slot i).ack = .sending := by rw [State.started_slot, State.slot_setAck, if_pos rfl]
  have hk : (s.started i).txCursor.toNat + (9 + 2 * respLen s.cfg (s.slot i).cmd) ≤ (s.started i).streamLen.toNat := by
    rw [State.started_txCursor, State.started_streamLen]
    change 1 + _ ≤ _
    omega
  obtain ⟨hidx, hslot⟩ :=
    State.slots_before_last _ (s.started i) hsend (fun _ => .inl (s.started_txCursor i)) hk
  exact ⟨hidx, by rw [hslot]; exact hsend⟩

/-- A completion with a slot being sent puts a byte on the link (R189). -/
theorem State.txDone_txBusy {s : State} (hsend : (s.slot s.txIdx).ack = .sending) : s.txDone.txBusy = true := by
  rw [State.txDone_eq_of_sending hsend]
  rfl

/-- A completion starts the armed slot under `tx_idx` (R183). -/
theorem State.txDone_of_armed {s : State} (harmed : (s.slot s.txIdx).ack = .toBeSend) :
    s.txDone = s.started s.txIdx :=
  (s.setBusy false).txPump_of_armed ((s.setBusy false).ackAhead_zero.trans harmed)

/-- Settles O43: the first completion starts the slot, the next `9 + 2m` stream all its bytes but the last, and the last
one leaves it `SENT`. -/
theorem wholeResponseIsStreamed : Obligations.WholeResponseIsStreamed := by
  intro s harmed sl m
  have hfirst : ∀ n, execTimes .txDone (n + 1) s = .next (State.txDone^[n] (s.started s.txIdx)) := fun n => by
    rw [execTimes_txDone, Function.iterate_succ_apply, State.txDone_of_armed harmed]
  have hbefore : 10 + 2 * m = 9 + 2 * m + 1 := by omega
  have hall : 11 + 2 * m = 10 + 2 * m + 1 := by omega
  obtain ⟨hidx, hsend⟩ := s.started_sending s.txIdx
  obtain ⟨hout, hsent⟩ := State.started_sent (s := s) (i := s.txIdx) rfl
  have hbusy : (State.txDone^[10 + 2 * m] (s.started s.txIdx)).txBusy = true := by
    rw [hbefore, Function.iterate_succ_apply']
    exact State.txDone_txBusy (by rw [hidx]; exact hsend)
  have hslot : (State.txDone^[10 + 2 * m] (s.started s.txIdx)).slot s.txIdx = { sl with ack := .sent } := by
    rw [hsent.2, State.slot_setAck, if_pos rfl, State.started_slot, State.slot_setAck, if_pos rfl]
  refine ⟨⟨_, hbefore ▸ hfirst _, hsend⟩, _, hall ▸ hfirst _, hout, hbusy, hsent.1, hslot, fun j hj => ?_⟩
  rw [hsent.other hj, State.started_slot, State.slot_setAck, if_neg hj]

/-! ### O40: `TX_FILL` (R185) -/

/-- The response stands at the beginning of `tx_buf`; what comes after it is what was there. -/
theorem State.txFill_toList (s : State) (i : Fin 3) :
    (s.txFill i).txBuf.toList =
      responseBytes s.cfg (s.slot i) ++ s.txBuf.toList.drop (10 + 2 * respLen s.cfg (s.slot i).cmd) := by
  have hlen := length_responseBytes s.cfg (s.slot i)
  have hle := respLen_le s.cfg (s.slot i).cmd
  rw [State.txFill_txBuf, overwrite_toList _ _ _ (by omega), List.take_zero, List.nil_append, Nat.zero_add, hlen]

/-- Settles O40: the row is `TX_FILL`, whose length register and whole buffer are known. -/
theorem txFillFormatsTheResponse : Obligations.TxFillFormatsTheResponse :=
  fun s i => ⟨s.txFill i, rfl, rfl, s.txFill_toList i⟩

/-! ### O41: `TX_NEXT` (R182 to R184, R187) -/

theorem exec_txNext (s : State) : exec .txNext s = .next (s.txNext.1.ret (.optByte s.txNext.2)) := rfl

theorem Ack.idle_iff (a : Ack) : a.idle = true ↔ a = .notReady ∨ a = .sent := by
  cases a <;> decide

theorem Ack.ne_toBeSend_of_idle {a : Ack} (h : a.idle = true) : a ≠ .toBeSend := by
  rintro rfl
  cases h

theorem Ack.ne_sending_of_idle {a : Ack} (h : a.idle = true) : a ≠ .sending := by
  rintro rfl
  cases h

/-- Behind an idle slot with no armed one next there is nothing to send (R182). -/
theorem State.txNext_of_none_armed {s : State} (hidle : (s.slot s.txIdx).ack.idle = true)
    (hnext : (s.slot (ringNext s.txIdx)).ack ≠ .toBeSend) : s.txNext = (s, none) := by
  rcases s.txNext_cases with ⟨-, -, h⟩ | ⟨i, harmed, rfl | ⟨-, rfl⟩, -⟩ | ⟨hsend, -⟩
  · exact h
  · exact absurd harmed (Ack.ne_toBeSend_of_idle hidle)
  · exact absurd harmed hnext
  · exact absurd hsend (Ack.ne_sending_of_idle hidle)

/-- The armed slot under `tx_idx` is opened with `STX` (R183). -/
theorem State.txNext_of_armed {s : State} (harmed : (s.slot s.txIdx).ack = .toBeSend) :
    s.txNext = ({ s.setAck s.txIdx .sending with txCursor := 1 }, some STX) := by
  rcases s.txNext_cases with ⟨hidle, -, -⟩ | ⟨i, -, rfl | ⟨hidle, -⟩, h⟩ | ⟨hsend, -⟩
  · exact absurd harmed (Ack.ne_toBeSend_of_idle hidle)
  · exact h
  · exact absurd harmed (Ack.ne_toBeSend_of_idle hidle)
  · cases hsend.symm.trans harmed

/-- Behind an idle slot the next one, armed, is selected and opened with `STX` (R182, R183). -/
theorem State.txNext_of_next_armed {s : State} (hidle : (s.slot s.txIdx).ack.idle = true)
    (harmed : (s.slot (ringNext s.txIdx)).ack = .toBeSend) :
    s.txNext = ({ s.setAck (ringNext s.txIdx) .sending with txIdx := ringNext s.txIdx, txCursor := 1 }, some STX) := by
  rcases s.txNext_cases with ⟨-, hnext, -⟩ | ⟨i, hi, rfl | ⟨-, rfl⟩, h⟩ | ⟨hsend, -⟩
  · exact absurd harmed hnext
  · exact absurd hi (Ack.ne_toBeSend_of_idle hidle)
  · exact h
  · exact absurd hsend (Ack.ne_sending_of_idle hidle)

/-- At cursor `k + 1` a formatted response gives its byte `k`, and the slot is `SENT` with the last (R187). -/
theorem State.txFormatted_of_cursor {s : State} {i : Fin 3} {c : BitVec 4} {k : Fin 14} (hi : s.txIdx = i)
    (hc : s.txCursor = c) (hk : c.toNat = k.val + 1) :
    s.txFormatted =
      (if k.val + 1 = s.txLen.toNat then ({ s with txCursor := c + 1 } : State).setAck i .sent
        else { s with txCursor := c + 1 },
      some s.txBuf[k.val]) := by
  subst hi hc
  have hlast : s.txCursor - 1 = s.txLen - 1 ↔ k.val + 1 = s.txLen.toNat := by
    rw [sub_left_inj, ← hk, BitVec.toNat_inj]
  have hbyte : (s.txCursor - 1).toNat = k.val := by bv_omega
  unfold State.txFormatted
  simp only [hlast, hbyte, Vector.getElem?_eq_getElem k.isLt, Option.getD_some]

/-- Settles O41: the three cases of `TX_NEXT`, the last with the response formatted at cursor 1. -/
theorem txNextChoosesTheByte : Obligations.TxNextChoosesTheByte := by
  intro s a nx start
  refine ⟨fun ha hnext => ?_, fun ha hnext => ?_, fun ha => ?_, fun ha => ?_⟩
  · rw [exec_txNext, State.txNext_of_none_armed ((Ack.idle_iff a).mpr ha) hnext]
    rfl
  · rw [exec_txNext, State.txNext_of_next_armed ((Ack.idle_iff a).mpr ha) hnext]
    rfl
  · rw [exec_txNext, State.txNext_of_armed ha]
    rfl
  · intro f f' k hk
    have hcursor : f.txCursor = s.txCursor := by
      rw [apply_ite State.txCursor, State.txFill_txCursor, ite_self]
    have hidx : f.txIdx = s.txIdx := by rw [apply_ite State.txIdx, State.txFill_txIdx, ite_self]
    have hstream : s.txStream = f.txFormatted := s.txStream_eq
    rw [exec_txNext, State.txNext_of_sending ha, hstream, State.txFormatted_of_cursor hidx hcursor hk]
    rfl

/-! ### O42: arming and the pump (R181, R188, R189) -/

theorem State.txPump_of_txNext_none {s : State} (h : s.txNext.2 = none) :
    s.txPump = { s.txNext.1 with txBusy := false } := by
  have hnext : s.txNext = (s.txNext.1, none) := Prod.ext rfl h
  rw [State.txPump, hnext]
  rfl

theorem State.txPump_of_txNext_some {s : State} {b : Byte} (h : s.txNext.2 = some b) :
    s.txPump = s.txNext.1.txPut b := by
  have hnext : s.txNext = (s.txNext.1, some b) := Prod.ext rfl h
  rw [State.txPump, hnext]

/-- Settles O42: each row's operation, split on `tx_busy` for `ARM` and on what `TX_NEXT` gives for the pump. -/
theorem armingAndPumping : Obligations.ArmingAndPumping := fun _ =>
  ⟨fun i => ⟨fun hbusy => congrArg Host.Outcome.next (State.arm_of_busy hbusy i),
      fun hidle => congrArg Host.Outcome.next (State.arm_of_idle (Bool.eq_false_iff.mp hidle) i)⟩,
    rfl,
    fun h => congrArg Host.Outcome.next (State.txPump_of_txNext_none h),
    fun _ h => congrArg Host.Outcome.next (State.txPump_of_txNext_some h),
    fun _ => rfl⟩

end Sys2Proof.Machine

/-! `WRITE_BITS` as an instruction (44_framebuffer.md R201 to R207): its pixels (O45), the equal writes bit by bit (O46) and
the versions of its pages (O47). -/

namespace Sys2Proof.Machine

theorem exec_writeBits (s : State) (value start width column : Nat) :
    exec (.writeBits value start width column) s =
      .next (s.withCanvas (writeBits s.cfg.verBits value start width column s.canvas)) := rfl

/-! ### Canonical framebuffers are their pixels (R60, R62) -/

/-- A canonical memory reads as unlisted past the last page. -/
theorem Memory.readAt_of_le {lo : Nat} {m : Memory} (h : Memory.wfFrom lo m = true) {k : Nat}
    (hk : N_COLS * N_PAGES ≤ k) : m.readAt k = Memory.unlisted := by
  induction m generalizing lo with
  | nil => rfl
  | cons entry rest ih =>
    obtain ⟨a, v⟩ := entry
    simp only [Memory.wfFrom, Bool.and_eq_true, decide_eq_true_eq] at h
    obtain ⟨⟨⟨-, ha⟩, -⟩, hrest⟩ := h
    rw [Memory.readAt, if_neg (by omega)]
    exact ih hrest

/-- A byte is the eight pixels of its column. -/
theorem memRead_congr_pixel {m m' : Memory} {p c : Nat}
    (h : ∀ g, g / 8 = p → pixel m g c = pixel m' g c) : memRead m p c = memRead m' p c := by
  refine BitVec.eq_of_getLsbD_eq fun k hk => ?_
  have hpage : (8 * p + k) / 8 = p := by omega
  have hbit : (8 * p + k) % 8 = k := by omega
  have hpixel := h (8 * p + k) hpage
  rwa [pixel, pixel, hpage, hbit] at hpixel

/-- Two canonical memories that show the same pixels are equal. -/
theorem Memory.ext_pixel {m m' : Memory} (hm : m.wf = true) (hm' : m'.wf = true)
    (h : ∀ g c, g < FB_ROWS → c < N_COLS → pixel m g c = pixel m' g c) : m = m' := by
  refine Memory.ext_wf hm hm' fun k => ?_
  rcases Nat.lt_or_ge k (N_COLS * N_PAGES) with hin | hout
  · have haddr : fbAddr (k / N_COLS) (k % N_COLS) = k := Nat.div_add_mod k N_COLS
    have hbyte : memRead m (k / N_COLS) (k % N_COLS) = memRead m' (k / N_COLS) (k % N_COLS) := by
      refine memRead_congr_pixel fun g hg => h g _ ?_ (Nat.mod_lt k (by decide))
      simp only [N_COLS, N_PAGES, FB_ROWS] at *
      omega
    rwa [memRead, memRead, haddr] at hbyte
  · rw [Memory.readAt_of_le hm hout, Memory.readAt_of_le hm' hout]

/-! ### The field of a write (R201, R203) -/

/-- `m'` is canonical and is `m` with the rows `start` to `start + width - 1` of a column set to the low bits of `value`. -/
structure Memory.FieldSet (value start width column : Nat) (m m' : Memory) : Prop where
  wf : m'.wf = true
  pixel_eq : ∀ g c : Nat, g < FB_ROWS → c < N_COLS →
    pixel m' g c = if c = column ∧ start ≤ g ∧ g < start + width then value.testBit (g - start) else pixel m g c

theorem writeBits_fieldSet (vb value start width column : Nat) {cv : Canvas} (h : cv.fb.wf = true) :
    cv.fb.FieldSet value start width column (writeBits vb value start width column cv).fb :=
  ⟨writeBits_wf _ _ _ _ _ cv h, fun _ _ hg hc => pixel_writeBits _ _ _ _ hc hg h⟩

/-- The instruction sets its field and changes nothing beside the framebuffer and the versions (R205). -/
theorem exec_writeBits_fieldSet {s : State} (hs : s.fbInv) (value start width column : Nat) :
    ∃ t, exec (.writeBits value start width column) s = .next t ∧ t = { s with fb := t.fb, ver := t.ver } ∧
      s.fb.FieldSet value start width column t.fb :=
  ⟨_, exec_writeBits s value start width column, s.withCanvas_frame _,
    writeBits_fieldSet s.cfg.verBits value start width column (cv := s.canvas) hs⟩

namespace Memory.FieldSet

variable {value start width column : Nat} {m m' m'' : Memory}

theorem zero (h : m.wf = true) : m.FieldSet value start 0 column m :=
  ⟨h, fun _ _ _ _ => by rw [if_neg (by omega)]⟩

/-- A field and the single bit after it are the field that is one wider. -/
theorem succ (hfield : m.FieldSet value start width column m')
    (hbit : m'.FieldSet (value.testBit width).toNat (start + width) 1 column m'') :
    m.FieldSet value start (width + 1) column m'' := by
  refine ⟨hbit.wf, fun g c hg hc => ?_⟩
  rw [hbit.pixel_eq g c hg hc]
  by_cases hlast : c = column ∧ g = start + width
  · obtain ⟨rfl, rfl⟩ := hlast
    rw [if_pos (by omega), if_pos (by omega), Nat.sub_self, Nat.add_sub_cancel_left]
    cases value.testBit width <;> rfl
  · rw [if_neg (by omega), hfield.pixel_eq g c hg hc]
    exact if_congr (by omega) rfl rfl

theorem unique (h : m.FieldSet value start width column m') (h' : m.FieldSet value start width column m'') : m' = m'' :=
  Memory.ext_pixel h.wf h'.wf fun g c hg hc => (h.pixel_eq g c hg hc).trans (h'.pixel_eq g c hg hc).symm

end Memory.FieldSet

/-- Settles O45: the pixels of the field set, on the canvas of the state. -/
theorem writeBitsSetsItsPixels : Obligations.WriteBitsSetsItsPixels := by
  intro s value start width column hs
  obtain ⟨t, hexec, hframe, hfield⟩ := exec_writeBits_fieldSet hs value start width column
  exact ⟨t, hexec, hframe, hfield.wf, hfield.pixel_eq⟩

/-! ### Bit by bit (R207) -/

/-- The single-bit calls on bits 0 to `n - 1`, in order, set the field of width `n`. -/
theorem singleBits_fieldSet {s : State} (hs : s.fbInv) (value start column n : Nat) :
    ∃ u, (List.range n).foldlM (fun (x : State) i =>
        nextOf (exec (.writeBits ((value.testBit i).toNat) (start + i) 1 column) x)) s = some u ∧
      s.fb.FieldSet value start n column u.fb := by
  induction n with
  | zero => exact ⟨s, rfl, .zero hs⟩
  | succ n ih =>
    obtain ⟨u, hrun, hfield⟩ := ih
    obtain ⟨t, hexec, -, hbit⟩ :=
      exec_writeBits_fieldSet (s := u) hfield.wf (value.testBit n).toNat (start + n) 1 column
    refine ⟨t, ?_, hfield.succ hbit⟩
    have hlast : nextOf (exec (.writeBits (value.testBit n).toNat (start + n) 1 column) u) = some t := by
      rw [hexec]
      rfl
    simp [List.range_succ, hrun, hlast]

/-- Settles O46: both framebuffers have the field set, which leaves only one. -/
theorem writeBitsIsItsSingleBits : Obligations.WriteBitsIsItsSingleBits := by
  intro s value start width column hs
  obtain ⟨t, hexec, -, hfield⟩ := exec_writeBits_fieldSet hs value start width column
  obtain ⟨u, hrun, hbits⟩ := singleBits_fieldSet hs value start column width
  exact ⟨t, u, hexec, hrun, hfield.unique hbits⟩

/-! ### The versions of its pages (R204) -/

theorem getElem_bumpVersion (vb : Nat) (ver : Vector Nat 6) (q : Nat) (p : Fin 6) :
    (bumpVersion vb ver q)[p.val] = if p.val = q then (ver[p.val] + 1) % 2 ^ vb else ver[p.val] := by
  unfold bumpVersion
  rw [Vector.getElem_setIfInBounds]
  by_cases hq : q = p.val
  · subst hq
    rw [if_pos rfl, if_pos rfl, Vector.getElem?_eq_getElem p.isLt, Option.getD_some]
  · rw [if_neg hq, if_neg (Ne.symm hq)]

/-- The `width` rows from `start` on have a row of page `p`. -/
abbrev RowsOnPage (start width p : Nat) : Prop := 0 < width ∧ start / 8 ≤ p ∧ 8 * p < start + width

theorem rowsOnPage_iff {start width p : Nat} :
    RowsOnPage start width p ↔ ∃ g, start ≤ g ∧ g < start + width ∧ g / 8 = p := by
  constructor
  · rintro ⟨hwidth, hlo, hhi⟩
    exact ⟨max start (8 * p), by omega, by omega, by omega⟩
  · rintro ⟨g, hlo, hhi, rfl⟩
    exact ⟨by omega, by omega, by omega⟩

/-- Each turn of the loop raises its page and the rest of the field lies on later pages. -/
theorem ver_writeBitsLoop (vb col : Nat) (p : Fin 6) (fuel v g rem : Nat) (cv : Canvas)
    (hfuel : rem = 0 ∨ N_PAGES ≤ g / 8 + fuel) :
    (writeBitsLoop vb col fuel v g rem cv).ver[p.val] =
      if RowsOnPage g rem p then (cv.ver[p.val] + 1) % 2 ^ vb else cv.ver[p.val] := by
  have hp := p.isLt
  simp only [N_PAGES] at hfuel
  induction fuel generalizing v g rem cv with
  | zero => rw [writeBitsLoop, if_neg (by omega)]
  | succ fuel ih =>
    rw [writeBitsLoop]
    by_cases hgo : 0 < rem ∧ g < FB_ROWS
    · rw [if_pos hgo]
      refine (ih _ _ _ _ (by omega)).trans ?_
      rw [Canvas.put, getElem_bumpVersion]
      by_cases hpage : p.val = g / 8
      · rw [if_neg (by omega), if_pos hpage, if_pos (by omega)]
      · rw [if_neg hpage]
        exact if_congr (by omega) rfl rfl
    · rw [if_neg hgo, if_neg (by simp only [FB_ROWS] at hgo; omega)]

theorem ver_writeBits (vb v start width col : Nat) (cv : Canvas) (p : Fin 6) :
    (writeBits vb v start width col cv).ver[p.val] =
      if col < N_COLS ∧ RowsOnPage start width p then (cv.ver[p.val] + 1) % 2 ^ vb else cv.ver[p.val] := by
  unfold writeBits
  split
  · next hout => exact (if_neg fun h => Nat.not_lt.mpr hout h.1).symm
  · next hcol =>
    rw [ver_writeBitsLoop vb col p _ _ _ _ _ (.inr (Nat.le_add_left _ _))]
    exact if_congr (iff_and_self.mpr fun _ => Nat.not_le.mp hcol) rfl rfl

/-- Settles O47: the version of each page after the write, read in the two cases. -/
theorem writeBitsRaisesEachWrittenPageOnce : Obligations.WriteBitsRaisesEachWrittenPageOnce := by
  intro s value start width column
  refine ⟨_, exec_writeBits s value start width column, s.withCanvas_frame _, fun p => ?_⟩
  have hver := ver_writeBits s.cfg.verBits value start width column s.canvas p
  rw [← rowsOnPage_iff]
  exact ⟨fun hpage => hver.trans (if_pos hpage), fun hpage => hver.trans (if_neg hpage)⟩

end Sys2Proof.Machine

/-! Drawing column by column (45_glyph_blitter.md R218, R219): `BLANK_COL` and `STUFF_CHAR` paint runs of columns, each
with one `WRITE_BITS`, so what they leave is said once for any list of columns: O48. -/

namespace Sys2Proof.Machine

/-! ### Painted columns -/

/-- The columns `cols` of the rows of `x`, drawn in order, column `c` with `bits c` exclusive-or the inversion mask. -/
def Canvas.paint (vb : Nat) (x : LineCtx) (bits : Nat → Nat) (cols : List Nat) (cv : Canvas) : Canvas :=
  cols.foldl (fun cv c => writeBits vb (bits c ^^^ x.inv) x.row0 x.h c cv) cv

/-- How many of the columns are columns of the display (R47). -/
def onDisplay (cols : List Nat) : Nat := cols.countP fun c => decide (c < N_COLS)

theorem onDisplay_cons_of_lt {c : Nat} (cols : List Nat) (hc : c < N_COLS) :
    onDisplay (c :: cols) = onDisplay cols + 1 := List.countP_cons_of_pos (decide_eq_true hc)

theorem onDisplay_cons_of_not_lt {c : Nat} (cols : List Nat) (hc : ¬c < N_COLS) :
    onDisplay (c :: cols) = onDisplay cols := List.countP_cons_of_neg fun h => hc (of_decide_eq_true h)

theorem onDisplay_range' (col n : Nat) :
    onDisplay (List.range' col n) = (List.range n).countP fun j => decide (col + j < N_COLS) := by
  rw [onDisplay, List.range'_eq_map_range, List.countP_map]
  rfl

section

variable (vb : Nat) (x : LineCtx) (bits : Nat → Nat)

theorem Canvas.paint_cons (c : Nat) (cols : List Nat) (cv : Canvas) :
    cv.paint vb x bits (c :: cols) = (writeBits vb (bits c ^^^ x.inv) x.row0 x.h c cv).paint vb x bits cols := rfl

theorem Canvas.paint_append (cols cols' : List Nat) (cv : Canvas) :
    cv.paint vb x bits (cols ++ cols') = (cv.paint vb x bits cols).paint vb x bits cols' := List.foldl_append

/-- A painted column shows its bits, inverted, in the rows of the context, and no other pixel changes. -/
theorem Canvas.pixel_paint {g c : Nat} (hg : g < FB_ROWS) (hc : c < N_COLS) (cols : List Nat) {cv : Canvas}
    (hwf : cv.fb.wf = true) :
    pixel (cv.paint vb x bits cols).fb g c =
      if c ∈ cols ∧ x.row0 ≤ g ∧ g < x.row0 + x.h then (bits c ^^^ x.inv).testBit (g - x.row0)
      else pixel cv.fb g c := by
  induction cols generalizing cv with
  | nil => rw [if_neg fun h => List.not_mem_nil h.1]; rfl
  | cons col cols ih =>
    rw [Canvas.paint_cons, ih (writeBits_wf _ _ _ _ _ cv hwf), pixel_writeBits _ _ _ _ hc hg hwf]
    by_cases hrow : x.row0 ≤ g ∧ g < x.row0 + x.h
    · by_cases hmem : c ∈ cols
      · rw [if_pos ⟨hmem, hrow⟩, if_pos ⟨List.mem_cons_of_mem col hmem, hrow⟩]
      · rw [if_neg fun h => hmem h.1]
        by_cases hcol : c = col
        · subst hcol
          rw [if_pos ⟨rfl, hrow⟩, if_pos ⟨List.mem_cons_self, hrow⟩]
        · rw [if_neg fun h => hcol h.1, if_neg fun h => (List.mem_cons.mp h.1).elim hcol hmem]
    · rw [if_neg fun h => hrow h.2, if_neg fun h => hrow h.2, if_neg fun h => hrow h.2]

/-- Each painted column of the display raises each page of the rows once (R204). -/
theorem Canvas.ver_paint (p : Fin 6) (cols : List Nat) (cv : Canvas) :
    (cv.paint vb x bits cols).ver[p.val] =
      if RowsOnPage x.row0 x.h p ∧ 0 < onDisplay cols then (cv.ver[p.val] + onDisplay cols) % 2 ^ vb
      else cv.ver[p.val] := by
  induction cols generalizing cv with
  | nil => exact (if_neg fun h => absurd h.2 (Nat.lt_irrefl 0)).symm
  | cons col cols ih =>
    rw [Canvas.paint_cons, ih, ver_writeBits]
    by_cases hcol : col < N_COLS
    · rw [onDisplay_cons_of_lt cols hcol]
      by_cases hpage : RowsOnPage x.row0 x.h p
      · rw [if_pos (c := col < N_COLS ∧ _) ⟨hcol, hpage⟩, if_pos (c := _ ∧ 0 < _ + 1) ⟨hpage, Nat.succ_pos _⟩]
        split
        · rw [Nat.mod_add_mod, Nat.add_right_comm, Nat.add_assoc]
        · next hnone => rw [Nat.eq_zero_of_not_pos fun hpos => hnone ⟨hpage, hpos⟩]
      · rw [if_neg fun h => hpage h.1, if_neg fun h => hpage h.2, if_neg fun h => hpage h.1]
    · rw [onDisplay_cons_of_not_lt cols hcol, if_neg (c := col < N_COLS ∧ _) fun h => hcol h.1]

end

/-! ### The drawing operations as painted columns -/

section

variable (cfg : Config) (x : LineCtx)

/-- Blank columns are painted with any bits that are 0 there (R219). -/
theorem blankCols_eq_paint {bits : Nat → Nat} (n col : Nat) (cv : Canvas)
    (hbits : ∀ c, col ≤ c → c < col + n → bits c = 0) :
    blankCols cfg x n col cv = cv.paint cfg.verBits x bits (List.range' col n) := by
  induction n generalizing col cv with
  | zero => rfl
  | succ n ih =>
    rw [blankCols, ih _ _ fun c hlo hhi => hbits c (by omega) (by omega), List.range'_succ, Canvas.paint_cons,
      hbits col (Nat.le_refl col) (by omega), Nat.zero_xor]
    rfl

theorem blitCols_eq_paint {bits : Nat → Nat} (code : Byte) (n j col : Nat) (cv : Canvas)
    (hbits : ∀ c, col ≤ c → c < col + n → bits c = glyphBits cfg x code (j + (c - col))) :
    blitCols cfg x code n j col cv = cv.paint cfg.verBits x bits (List.range' col n) := by
  induction n generalizing j col cv with
  | zero => rfl
  | succ n ih =>
    have hfirst : bits col = glyphBits cfg x code j := by
      rw [hbits col (Nat.le_refl col) (by omega), Nat.sub_self, Nat.add_zero]
    have hrest (c : Nat) (hlo : col + 1 ≤ c) (hhi : c < col + 1 + n) :
        bits c = glyphBits cfg x code (j + 1 + (c - (col + 1))) := by
      rw [hbits c (by omega) (by omega)]
      congr 1
      omega
    rw [blitCols, ih _ _ _ hrest, List.range'_succ, Canvas.paint_cons, hfirst]

/-- A glyph that fits is painted column by column (R218). -/
theorem stuffChar_eq_paint {bits : Nat → Nat} (code : Byte) {col colHi : Nat} (cv : Canvas)
    (hfit : col + trimmedWidth cfg code ≤ colHi)
    (hbits : ∀ c, col ≤ c → c < col + trimmedWidth cfg code →
      bits c = glyphBits cfg x code ((trimGlyph cfg code).1 + (c - col))) :
    stuffChar cfg x code col colHi cv =
      cv.paint cfg.verBits x bits (List.range' col (trimmedWidth cfg code)) := by
  rw [stuffChar, if_neg (Nat.not_lt.mpr hfit)]
  exact blitCols_eq_paint cfg x code _ _ _ cv hbits

theorem stuffChar_of_no_fit (code : Byte) {col colHi : Nat} (cv : Canvas)
    (hfit : colHi < col + trimmedWidth cfg code) : stuffChar cfg x code col colHi cv = cv := if_pos hfit

/-- The rows of the context show a glyph's column unless it is hidden (R218). -/
theorem testBit_glyphBits (code : Byte) (j : Nat) {i : Nat} (hi : i < x.h) :
    (glyphBits cfg x code j).testBit i =
      (!((glyph cfg code).isBlinking && x.hide) && (glyphCol cfg code j).testBit i) := by
  unfold glyphBits
  split
  · next hhidden => rw [hhidden, Nat.zero_testBit]; rfl
  · next hshown => simp [hshown, hi]

end

/-! ### O48 -/

theorem exec_stuffChar (s : State) (row0 h inv : Nat) (hide : Bool) (code : Byte) (col colHi : Nat) :
    exec (.stuffChar row0 h inv hide code col colHi) s =
      .next ((s.withCanvas (stuffChar s.cfg { row0, h, inv, hide } code col colHi s.canvas)).ret
        (.num (trimmedWidth s.cfg code))) := rfl

theorem exec_blankCol (s : State) (row0 h inv col : Nat) :
    exec (.blankCol row0 h inv col) s =
      .next (s.withCanvas (blankCol s.cfg { row0, h, inv, hide := false } col s.canvas)) := rfl

section

variable (cfg : Config) (x : LineCtx) (code : Byte) {col colHi : Nat} (hfit : col + trimmedWidth cfg code ≤ colHi)

include hfit

/-- The pixels of a glyph that fits (R218). -/
theorem pixel_stuffChar {g c : Nat} (hg : g < FB_ROWS) (hc : c < N_COLS) {cv : Canvas} (hwf : cv.fb.wf = true) :
    pixel (stuffChar cfg x code col colHi cv).fb g c =
      if col ≤ c ∧ c < col + trimmedWidth cfg code ∧ x.row0 ≤ g ∧ g < x.row0 + x.h then
        ((!((glyph cfg code).isBlinking && x.hide) &&
          (glyphCol cfg code ((trimGlyph cfg code).1 + (c - col))).testBit (g - x.row0)) ^^ x.inv.testBit (g - x.row0))
      else pixel cv.fb g c := by
  rw [stuffChar_eq_paint cfg x code cv hfit fun _ _ _ => rfl, Canvas.pixel_paint _ _ _ hg hc _ hwf]
  refine ite_congr (by rw [List.mem_range'_1, and_assoc]) (fun hin => ?_) fun _ => rfl
  obtain ⟨-, -, hlo, hhi⟩ := hin
  rw [Nat.testBit_xor, testBit_glyphBits cfg x code _ (Nat.sub_lt_left_of_lt_add hlo hhi)]

/-- The versions after a glyph that fits: each of its columns on the display raises the pages of the rows (R204). -/
theorem ver_stuffChar (p : Fin 6) (cv : Canvas) :
    let n := (List.range (trimmedWidth cfg code)).countP fun j => decide (col + j < N_COLS)
    (stuffChar cfg x code col colHi cv).ver[p.val] =
      if RowsOnPage x.row0 x.h p ∧ 0 < n then (cv.ver[p.val] + n) % 2 ^ cfg.verBits else cv.ver[p.val] := by
  rw [stuffChar_eq_paint cfg x code cv hfit fun _ _ _ => rfl, Canvas.ver_paint, onDisplay_range']

end

/-- Settles O48: both operations paint a run of columns, `STUFF_CHAR` the columns of its glyph where it fits. -/
theorem glyphAndBlankColumns : Obligations.GlyphAndBlankColumns := by
  intro s row0 h inv hfb touches
  have htouches (p : Fin 6) : touches p ↔ RowsOnPage row0 h p.val := rowsOnPage_iff.symm
  simp only [htouches]
  refine ⟨fun hide code col colHi => ?glyph, fun col => ?blank⟩
  case glyph =>
    refine ⟨_, exec_stuffChar s row0 h inv hide code col colHi, rfl, fun hno => ?_,
      fun hfit g c hg hc => pixel_stuffChar s.cfg ⟨row0, h, inv, hide⟩ code hfit hg hc hfb, fun hfit p => ?_⟩
    · have hcanvas := stuffChar_of_no_fit s.cfg ⟨row0, h, inv, hide⟩ code s.canvas hno
      exact ⟨congrArg Canvas.fb hcanvas, congrArg Canvas.ver hcanvas⟩
    · have hver := ver_stuffChar s.cfg ⟨row0, h, inv, hide⟩ code hfit p s.canvas
      exact ⟨fun hdrawn => hver.trans (if_pos hdrawn), fun hnone => hver.trans (if_neg hnone)⟩
  case blank =>
    refine ⟨_, exec_blankCol s row0 h inv col, rfl,
      fun g c hg hc => pixel_writeBits s.cfg.verBits inv row0 h hc hg hfb, fun p => ?_⟩
    have hver := ver_writeBits s.cfg.verBits inv row0 h col s.canvas p
    exact ⟨fun hdrawn => hver.trans (if_pos hdrawn), fun hnone => hver.trans (if_neg hnone)⟩

end Sys2Proof.Machine

/-! `RENDER_LINE` as one painting (45_glyph_blitter.md R222 to R228): the columns of a line in drawing order, each with
the bits of the glyph that stands there: O49. -/

namespace Sys2Proof.Machine

/-! ### The text that fits (R225) -/

/-- The longest beginning of a text within `avail` columns, glyph by glyph. -/
theorem textThatFits_cons (cfg : Config) (avail : Nat) (t : Byte) (ts : List Byte) :
    textThatFits cfg avail (t :: ts) =
      if 1 + trimmedWidth cfg t ≤ avail then t :: textThatFits cfg (avail - (1 + trimmedWidth cfg t)) ts else [] := by
  have hcost (k : Nat) : decide (textCost cfg ((t :: ts).take (k + 1)) ≤ avail) =
      decide (1 + trimmedWidth cfg t + textCost cfg (ts.take k) ≤ avail) := by
    rw [List.take_succ_cons, textCost_cons]
  unfold textThatFits
  rw [List.length_cons, List.range_succ_eq_map (n := ts.length + 1), List.reverse_cons, ← List.map_reverse,
    List.find?_append, List.find?_map]
  simp only [Function.comp_def, hcost]
  by_cases hfit : 1 + trimmedWidth cfg t ≤ avail
  · obtain ⟨k, hk⟩ : ∃ k, (List.range (ts.length + 1)).reverse.find? (fun k =>
        decide (textCost cfg (ts.take k) ≤ avail - (1 + trimmedWidth cfg t))) = some k :=
      Option.isSome_iff_exists.mp (List.find?_isSome.mpr ⟨0, by simp, by simp [textCost]⟩)
    simp only [← Nat.le_sub_iff_add_le' hfit, hk, if_pos hfit]
    rfl
  · have hnone : (List.range (ts.length + 1)).reverse.find? (fun k =>
        decide (1 + trimmedWidth cfg t + textCost cfg (ts.take k) ≤ avail)) = none :=
      List.find?_eq_none.mpr fun k _ => by rw [decide_eq_true_eq]; omega
    rw [hnone, if_neg hfit]
    rfl

/-- `RENDER_LINE` draws the longest beginning of the text that fits, which it finds glyph by glyph. -/
theorem fitText_snd (cfg : Config) (avail : Nat) (ts : List Byte) {w : Nat} (hw : w ≤ avail) :
    (fitText cfg avail ts w).2 = textThatFits cfg (avail - w) ts := by
  induction ts generalizing w with
  | nil => rfl
  | cons t ts ih =>
    rw [fitText, textThatFits_cons]
    by_cases hfit : w + 1 + trimmedWidth cfg t ≤ avail
    · rw [if_pos hfit, if_pos (by omega), ← Nat.sub_add_eq, ← Nat.add_assoc, ← ih hfit]
    · rw [if_neg hfit, if_neg (by omega)]

/-! ### The places of a line -/

/-- The right icon at the right edge, where the code is one (R224). -/
def rightPlaces (cfg : Config) (code : Byte) : List BlinkRec :=
  if isIcon code then [{ code, col := N_COLS - trimmedWidth cfg code, colHi := N_COLS }] else []

theorem fitted_snd (cfg : Config) (content : Vector Byte 20) :
    (fitted cfg content).2 =
      textThatFits cfg (textEnd cfg content[19] - trimmedWidth cfg content[0]) (lineText content) :=
  fitText_snd cfg _ _ (Nat.zero_le _)

theorem fitted_fst (cfg : Config) (content : Vector Byte 20) :
    (fitted cfg content).1 = textCost cfg (fitted cfg content).2 :=
  (fitText_spec cfg _ _ (Nat.zero_le _)).1.trans (Nat.zero_add _)

/-- The places of R223 to R226 stand at the columns that drawing computes. -/
theorem linePlaces_eq (cfg : Config) (content : Vector Byte 20) :
    linePlaces cfg content = { code := content[0], col := 0, colHi := N_COLS } ::
      (rightPlaces cfg content[19] ++
        textPlaces cfg (textEnd cfg content[19]) (fitted cfg content).2 (textStart cfg content)) := by
  have hend : (if 127 < content[19].toNat then 128 - trimmedWidth cfg content[19] - 3 else 128) =
      textEnd cfg content[19] := by
    unfold textEnd isIcon
    simp only [decide_eq_true_eq]
    rfl
  unfold linePlaces
  dsimp only
  rw [hend, ← fitted_snd, ← fitted_fst]
  unfold rightPlaces isIcon
  simp only [decide_eq_true_eq]
  rfl

/-! ### The bits a column shows -/

/-- The bits of the glyph that stands in a column, cut to the rows of the context. -/
def shownBits (cfg : Config) (x : LineCtx) (places : List BlinkRec) (c : Nat) : Nat :=
  placedBits cfg x.hide places c &&& (2 ^ x.h - 1)

section

variable (cfg : Config) (x : LineCtx)

theorem shownBits_nil (c : Nat) : shownBits cfg x [] c = 0 := Nat.zero_and _

theorem shownBits_cons_of_covered {r : BlinkRec} (rs : List BlinkRec) {c : Nat} (hlo : r.col ≤ c)
    (hhi : c < r.col + trimmedWidth cfg r.code) :
    shownBits cfg x (r :: rs) c = glyphBits cfg x r.code ((trimGlyph cfg r.code).1 + (c - r.col)) := by
  unfold shownBits placedBits glyphBits
  rw [List.find?_cons_of_pos (p := fun r : BlinkRec => decide (r.col ≤ c ∧ c < r.col + trimmedWidth cfg r.code))
    (decide_eq_true ⟨hlo, hhi⟩)]
  dsimp only
  split
  · exact Nat.zero_and _
  · rfl

theorem shownBits_cons_of_not_covered {r : BlinkRec} (rs : List BlinkRec) {c : Nat}
    (hout : c < r.col ∨ r.col + trimmedWidth cfg r.code ≤ c) :
    shownBits cfg x (r :: rs) c = shownBits cfg x rs c := by
  unfold shownBits placedBits
  rw [List.find?_cons_of_neg]
  simp only [decide_eq_true_eq]
  omega

/-- Places that leave a column blank hide nothing that stands before them. -/
theorem shownBits_append_of_zero (rs : List BlinkRec) {rs' : List BlinkRec} {c : Nat} (h : shownBits cfg x rs' c = 0) :
    shownBits cfg x (rs ++ rs') c = shownBits cfg x rs c := by
  induction rs with
  | nil => exact h.trans (shownBits_nil cfg x c).symm
  | cons r rs ih =>
    rw [List.cons_append]
    by_cases hin : r.col ≤ c ∧ c < r.col + trimmedWidth cfg r.code
    · rw [shownBits_cons_of_covered cfg x _ hin.1 hin.2, shownBits_cons_of_covered cfg x _ hin.1 hin.2]
    · rw [shownBits_cons_of_not_covered cfg x _ (by omega), shownBits_cons_of_not_covered cfg x _ (by omega), ih]

/-- Before its first glyph and after its last a text shows nothing (R226). -/
theorem shownBits_textPlaces_of_outside (colHi : Nat) (ts : List Byte) {col c : Nat}
    (hout : c ≤ col ∨ col + textCost cfg ts ≤ c) : shownBits cfg x (textPlaces cfg colHi ts col) c = 0 := by
  induction ts generalizing col with
  | nil => exact shownBits_nil cfg x c
  | cons t ts ih =>
    rw [textCost_cons] at hout
    rw [textPlaces, shownBits_cons_of_not_covered cfg x _ (by dsimp only; omega), ih (by omega)]

/-- Before `col_hi` the right icon shows nothing (R224). -/
theorem shownBits_rightPlaces_append {code : Byte} (rs : List BlinkRec) {c : Nat} (hc : c < textEnd cfg code) :
    shownBits cfg x (rightPlaces cfg code ++ rs) c = shownBits cfg x rs c := by
  unfold textEnd at hc
  unfold rightPlaces
  split
  · next hicon =>
    rw [if_pos hicon] at hc
    refine shownBits_cons_of_not_covered cfg x rs (.inl ?_)
    dsimp only
    omega
  · rfl

/-! ### The parts of a line as painted columns -/

theorem drawText_eq_paint {bits : Nat → Nat} (ts : List Byte) {col colHi : Nat} (cv : Canvas) (r : Option BlinkRec)
    (hfit : col + textCost cfg ts ≤ colHi)
    (hbits : ∀ c, col ≤ c → c < col + textCost cfg ts →
      bits c = shownBits cfg x (textPlaces cfg colHi ts col) c) :
    (drawText cfg x colHi ts { cv, col, blink := r }).cv =
      cv.paint cfg.verBits x bits (List.range' col (textCost cfg ts)) := by
  induction ts generalizing col cv r with
  | nil => rfl
  | cons t ts ih =>
    rw [textCost_cons] at hfit hbits
    have hblank : bits col = 0 := by
      rw [hbits col (Nat.le_refl col) (by omega),
        shownBits_textPlaces_of_outside cfg x colHi _ (.inl (Nat.le_refl col))]
    have hglyph (c : Nat) (hlo : col + 1 ≤ c) (hhi : c < col + 1 + trimmedWidth cfg t) :
        bits c = glyphBits cfg x t ((trimGlyph cfg t).1 + (c - (col + 1))) :=
      (hbits c (by omega) (by omega)).trans (shownBits_cons_of_covered cfg x _ hlo hhi)
    have hrest (c : Nat) (hlo : col + 1 + trimmedWidth cfg t ≤ c)
        (hhi : c < col + 1 + trimmedWidth cfg t + textCost cfg ts) :
        bits c = shownBits cfg x (textPlaces cfg colHi ts (col + 1 + trimmedWidth cfg t)) c :=
      (hbits c (by omega) (by omega)).trans (shownBits_cons_of_not_covered cfg x _ (.inr hlo))
    have hfirst : blankCol cfg x col cv = cv.paint cfg.verBits x bits (List.range' col 1) :=
      blankCols_eq_paint cfg x 1 col cv fun c hlo hhi => by rwa [Nat.le_antisymm (Nat.le_of_lt_succ hhi) hlo]
    rw [drawText, ih _ _ (by omega) hrest, stuffChar_eq_paint cfg x t _ (by omega) hglyph, hfirst,
      ← Canvas.paint_append, ← Canvas.paint_append, List.range'_append_1, List.range'_append_1, textCost_cons,
      Nat.add_assoc 1]

/-- The columns of the right icon and its gap, in drawing order (R224). -/
def rightCols (cfg : Config) (code : Byte) : List Nat :=
  if isIcon code then
    List.range' (N_COLS - trimmedWidth cfg code) (trimmedWidth cfg code) ++ List.range' (textEnd cfg code) GAP
  else []

theorem drawRight_eq_paint (hcfg : glyphsLegal cfg = true) {bits : Nat → Nat} (code : Byte) (d : Drawn)
    (hbits : ∀ c, textEnd cfg code ≤ c → c < N_COLS → bits c = shownBits cfg x (rightPlaces cfg code) c) :
    (drawRight cfg x code d).cv = d.cv.paint cfg.verBits x bits (rightCols cfg code) := by
  have hwidth := trimmedWidth_le hcfg code
  unfold textEnd rightPlaces at hbits
  unfold drawRight rightCols textEnd
  split
  · next hicon =>
    rw [if_pos hicon, if_pos hicon] at hbits
    simp only [N_COLS, GAP] at hbits ⊢
    have hglyph (c : Nat) (hlo : 128 - trimmedWidth cfg code ≤ c)
        (hhi : c < 128 - trimmedWidth cfg code + trimmedWidth cfg code) :
        bits c = glyphBits cfg x code ((trimGlyph cfg code).1 + (c - (128 - trimmedWidth cfg code))) :=
      (hbits c (by omega) (by omega)).trans (shownBits_cons_of_covered cfg x [] hlo hhi)
    have hgap (c : Nat) (hlo : 128 - trimmedWidth cfg code - 3 ≤ c) (hhi : c < 128 - trimmedWidth cfg code - 3 + 3) :
        bits c = 0 := by
      rw [hbits c hlo (by omega), shownBits_cons_of_not_covered cfg x [] (.inl (by dsimp only; omega)), shownBits_nil]
    rw [blankCols_eq_paint cfg x 3 _ _ hgap, stuffChar_eq_paint cfg x code _ (by omega) hglyph, ← Canvas.paint_append]
  · rfl

/-- The columns of a line in drawing order: left icon, right icon and gap, pre-fill, text, padding (R228). -/
def lineCols (cfg : Config) (content : Vector Byte 20) : List Nat :=
  let lo := trimmedWidth cfg content[0]
  let hi := textEnd cfg content[19]
  let start := textStart cfg content
  let width := textCost cfg (fitted cfg content).2
  List.range' 0 lo ++ rightCols cfg content[19] ++ List.range' lo (start - lo) ++ List.range' start width ++
    List.range' (start + width) (hi - (start + width))

/-- The left icon stands before the text (R223). -/
theorem shownBits_linePlaces_of_left (content : Vector Byte 20) {c : Nat} (hc : c < trimmedWidth cfg content[0]) :
    shownBits cfg x (linePlaces cfg content) c = glyphBits cfg x content[0] ((trimGlyph cfg content[0]).1 + c) := by
  rw [linePlaces_eq, shownBits_cons_of_covered cfg x _ (Nat.zero_le c) (by rwa [Nat.zero_add])]
  rfl

/-- Between the icons only the text shows (R225). -/
theorem shownBits_linePlaces_of_middle (content : Vector Byte 20) {c : Nat} (hlo : trimmedWidth cfg content[0] ≤ c)
    (hhi : c < textEnd cfg content[19]) :
    shownBits cfg x (linePlaces cfg content) c =
      shownBits cfg x (textPlaces cfg (textEnd cfg content[19]) (fitted cfg content).2 (textStart cfg content)) c := by
  rw [linePlaces_eq, shownBits_cons_of_not_covered cfg x _ (.inr (by rwa [Nat.zero_add])),
    shownBits_rightPlaces_append cfg x _ hhi]

/-- From `col_hi` on only the right icon shows (R224). -/
theorem shownBits_linePlaces_of_right (hcfg : glyphsLegal cfg = true) (content : Vector Byte 20) {c : Nat}
    (hc : textEnd cfg content[19] ≤ c) :
    shownBits cfg x (linePlaces cfg content) c = shownBits cfg x (rightPlaces cfg content[19]) c := by
  have hleft := (textEnd_bounds hcfg content[0] content[19]).1.trans hc
  have htext := (textStart_bounds hcfg content).2.trans hc
  rw [linePlaces_eq, shownBits_cons_of_not_covered cfg x _ (.inr (by rwa [Nat.zero_add])),
    shownBits_append_of_zero cfg x _ (shownBits_textPlaces_of_outside cfg x _ _ (.inr htext))]

/-- A line is painted once, in the columns of its drawing order, with the bits of its places (R228). -/
theorem drawLine_eq_paint (hcfg : glyphsLegal cfg = true) (content : Vector Byte 20) (cv : Canvas) :
    (drawLine cfg x content cv).1 =
      cv.paint cfg.verBits x (shownBits cfg x (linePlaces cfg content)) (lineCols cfg content) := by
  obtain ⟨hroom, hend⟩ := textEnd_bounds hcfg content[0] content[19]
  obtain ⟨hstart, hstop⟩ := textStart_bounds hcfg content
  have hblank (c : Nat) (hlo : trimmedWidth cfg content[0] ≤ c) (hhi : c < textEnd cfg content[19])
      (hout : c ≤ textStart cfg content ∨ textStart cfg content + textCost cfg (fitted cfg content).2 ≤ c) :
      shownBits cfg x (linePlaces cfg content) c = 0 :=
    (shownBits_linePlaces_of_middle cfg x content hlo hhi).trans (shownBits_textPlaces_of_outside cfg x _ _ hout)
  have hleft (c : Nat) (_ : 0 ≤ c) (hhi : c < 0 + trimmedWidth cfg content[0]) :
      shownBits cfg x (linePlaces cfg content) c =
        glyphBits cfg x content[0] ((trimGlyph cfg content[0]).1 + (c - 0)) :=
    shownBits_linePlaces_of_left cfg x content (by rwa [Nat.zero_add] at hhi)
  have hright (c : Nat) (hlo : textEnd cfg content[19] ≤ c) (_ : c < N_COLS) :=
    shownBits_linePlaces_of_right cfg x hcfg content hlo
  have hfill (c : Nat) (hlo : trimmedWidth cfg content[0] ≤ c)
      (hhi : c < trimmedWidth cfg content[0] + (textStart cfg content - trimmedWidth cfg content[0])) :=
    hblank c hlo (by omega) (.inl (by omega))
  have htext (c : Nat) (hlo : textStart cfg content ≤ c)
      (hhi : c < textStart cfg content + textCost cfg (fitted cfg content).2) :=
    shownBits_linePlaces_of_middle cfg x content (hstart.trans hlo) (hhi.trans_le hstop)
  have hpad (c : Nat) (hlo : textStart cfg content + textCost cfg (fitted cfg content).2 ≤ c)
      (hhi : c < textStart cfg content + textCost cfg (fitted cfg content).2 +
        (textEnd cfg content[19] - (textStart cfg content + textCost cfg (fitted cfg content).2))) :=
    hblank c (by omega) (by omega) (.inr hlo)
  rw [drawLine_fst, blankCols_eq_paint cfg x _ _ _ hpad, drawText_eq_paint cfg x _ _ _ hstop htext,
    blankCols_eq_paint cfg x _ _ _ hfill, drawRight_eq_paint cfg x hcfg _ _ hright,
    stuffChar_eq_paint cfg x _ _ ((Nat.zero_add _).le.trans (hroom.trans hend)) hleft]
  simp only [← Canvas.paint_append]
  rfl

end

/-! ### The columns of a line -/

theorem onDisplay_append (cols cols' : List Nat) : onDisplay (cols ++ cols') = onDisplay cols + onDisplay cols' :=
  List.countP_append

theorem onDisplay_range'_of_le {col n : Nat} (h : col + n ≤ N_COLS) : onDisplay (List.range' col n) = n := by
  refine (List.countP_eq_length.mpr fun c hc => decide_eq_true ?_).trans List.length_range'
  rw [List.mem_range'_1] at hc
  omega

section

variable {cfg : Config} (hcfg : glyphsLegal cfg = true)

include hcfg

theorem onDisplay_rightCols (code : Byte) : onDisplay (rightCols cfg code) = N_COLS - textEnd cfg code := by
  have hwidth := trimmedWidth_le hcfg code
  unfold rightCols textEnd
  split
  · simp only [N_COLS, GAP]
    rw [onDisplay_append, onDisplay_range'_of_le (by rw [N_COLS]; omega),
      onDisplay_range'_of_le (by rw [N_COLS]; omega)]
    omega
  · rfl

theorem mem_rightCols {code : Byte} {c : Nat} (hlo : textEnd cfg code ≤ c) (hhi : c < N_COLS) :
    c ∈ rightCols cfg code := by
  have hwidth := trimmedWidth_le hcfg code
  unfold textEnd at hlo
  unfold rightCols textEnd
  split
  · next hicon =>
    rw [if_pos hicon] at hlo
    simp only [N_COLS, GAP] at *
    rw [List.mem_append, List.mem_range'_1, List.mem_range'_1]
    omega
  · next hicon =>
    rw [if_neg hicon] at hlo
    omega

/-- A line takes every column of the display once (R228). -/
theorem onDisplay_lineCols (content : Vector Byte 20) : onDisplay (lineCols cfg content) = N_COLS := by
  obtain ⟨hroom, hend⟩ := textEnd_bounds hcfg content[0] content[19]
  obtain ⟨hstart, hstop⟩ := textStart_bounds hcfg content
  unfold lineCols
  simp only [onDisplay_append, onDisplay_rightCols hcfg]
  rw [onDisplay_range'_of_le (by omega), onDisplay_range'_of_le (by omega), onDisplay_range'_of_le (by omega),
    onDisplay_range'_of_le (by omega)]
  omega

theorem mem_lineCols (content : Vector Byte 20) {c : Nat} (hc : c < N_COLS) : c ∈ lineCols cfg content := by
  obtain ⟨hroom, hend⟩ := textEnd_bounds hcfg content[0] content[19]
  obtain ⟨hstart, hstop⟩ := textStart_bounds hcfg content
  unfold lineCols
  simp only [List.mem_append, List.mem_range'_1]
  by_cases hright : textEnd cfg content[19] ≤ c
  · have hmem := mem_rightCols hcfg hright hc
    tauto
  · omega

end

/-! ### O49 -/

theorem State.canvas_fb (s : State) : s.canvas.fb = s.fb := rfl

theorem State.canvas_ver (s : State) : s.canvas.ver = s.ver := rfl

theorem State.renderLine_canvas (s : State) (line : Fin 4) (content : Vector Byte 20) (isInternal : Bool) :
    (s.renderLine line content isInternal).canvas =
      (drawLine s.cfg (s.lineCtx line content[1]) content s.canvas).1 := by
  unfold State.renderLine
  dsimp only
  rw [State.updateTask_frame]
  rfl

/-- Every row of a line is inverted or none is (R222). -/
theorem testBit_inversionMask (cfg : Config) (f : Byte) {h i : Nat} (hi : i < h) :
    (inversionMask cfg f h).testBit i = f.getLsbD cfg.fmtInv.val := by
  unfold inversionMask fmtFlag
  cases hinv : f.getLsbD cfg.fmtInv.val with
  | false => rw [if_neg Bool.false_ne_true, Nat.zero_testBit]
  | true => rw [if_pos rfl, Nat.testBit_two_pow_sub_one, decide_eq_true hi]

section

variable (s : State) (line : Fin 4) (content : Vector Byte 20) (isInternal : Bool) (hcfg : glyphsLegal s.cfg = true)

include hcfg

theorem State.renderLine_canvas_eq_paint :
    (s.renderLine line content isInternal).canvas =
      s.canvas.paint s.cfg.verBits (s.lineCtx line content[1])
        (shownBits s.cfg (s.lineCtx line content[1]) (linePlaces s.cfg content)) (lineCols s.cfg content) :=
  (s.renderLine_canvas line content isInternal).trans (drawLine_eq_paint s.cfg _ hcfg content s.canvas)

/-- A row of the line shows what stands in each column, inverted as the format byte says (R222, R226). -/
theorem State.pixel_renderLine_of_lineHas (hfb : s.fbInv) {g c : Nat} (hg : g < FB_ROWS) (hc : c < N_COLS)
    (hrow : lineHas s.layout line g) :
    pixel (s.renderLine line content isInternal).fb g c =
      ((placedBits s.cfg s.blinkPhase (linePlaces s.cfg content) c).testBit (g - lineRow0 s.layout line)
        ^^ content[1].getLsbD s.cfg.fmtInv.val) := by
  obtain ⟨hlo, hhi⟩ := hrow
  have hbit : g - lineRow0 s.layout line < lineHeight s.layout line := Nat.sub_lt_left_of_lt_add hlo hhi
  rw [← State.canvas_fb, s.renderLine_canvas_eq_paint line content isInternal hcfg,
    Canvas.pixel_paint _ _ _ hg hc _ (cv := s.canvas) hfb, if_pos ⟨mem_lineCols hcfg content hc, hlo, hhi⟩, Nat.testBit_xor]
  refine congrArg₂ _ ?_ (testBit_inversionMask s.cfg content[1] hbit)
  unfold shownBits
  rw [Nat.testBit_and, Nat.testBit_two_pow_sub_one]
  exact (congrArg _ (decide_eq_true hbit)).trans (Bool.and_true _)

/-- No pixel outside the line changes (R228). -/
theorem State.pixel_renderLine_of_not_lineHas (hfb : s.fbInv) {g c : Nat} (hg : g < FB_ROWS) (hc : c < N_COLS)
    (hrow : ¬lineHas s.layout line g) : pixel (s.renderLine line content isInternal).fb g c = pixel s.fb g c := by
  rw [← State.canvas_fb, s.renderLine_canvas_eq_paint line content isInternal hcfg,
    Canvas.pixel_paint _ _ _ hg hc _ (cv := s.canvas) hfb]
  exact if_neg fun h => hrow h.2

/-- A render raises each page of its line once a column (R204, R220). -/
theorem State.ver_renderLine (p : Fin 6) :
    (pageOf s.layout line p.val → (s.renderLine line content isInternal).ver[p.val] =
      (s.ver[p.val] + N_COLS) % 2 ^ s.cfg.verBits) ∧
    (¬pageOf s.layout line p.val → (s.renderLine line content isInternal).ver[p.val] = s.ver[p.val]) := by
  have hver := Canvas.ver_paint s.cfg.verBits (s.lineCtx line content[1])
    (shownBits s.cfg (s.lineCtx line content[1]) (linePlaces s.cfg content)) p (lineCols s.cfg content) s.canvas
  rw [onDisplay_lineCols hcfg, ← s.renderLine_canvas_eq_paint line content isInternal hcfg] at hver
  have hpage : pageOf s.layout line p.val ↔ RowsOnPage (lineRow0 s.layout line) (lineHeight s.layout line) p.val := by
    rw [rowsOnPage_iff]
    simp only [pageOf, lineHas, and_assoc]
  rw [hpage]
  exact ⟨fun hon => hver.trans (if_pos ⟨hon, by decide⟩), fun hoff => hver.trans (if_neg fun h => hoff h.1)⟩

end

/-- Settles O49: a render is one painting of the line's 128 columns, whose bits depend on the parameters, the layout and
the phase alone. -/
theorem renderReplacesItsLineAlone : Obligations.RenderReplacesItsLineAlone := by
  intro s line content isInternal hfb _ hcfg
  refine ⟨_, exec_renderLine s line content isInternal, s.renderLine_frame line content isInternal,
    fun g c hg hc hrow => s.pixel_renderLine_of_lineHas line content isInternal hcfg hfb hg hc hrow,
    fun g c hg hc hrow => s.pixel_renderLine_of_not_lineHas line content isInternal hcfg hfb hg hc hrow,
    fun s' hfb' hcfg' hlayout hphase => ⟨_, exec_renderLine s' line content isInternal, fun g c hg hc hrow => ?_⟩,
    fun p => s.ver_renderLine line content isInternal hcfg p⟩
  rw [s.pixel_renderLine_of_lineHas line content isInternal hcfg hfb hg hc hrow,
    s'.pixel_renderLine_of_lineHas line content isInternal (hcfg' ▸ hcfg) hfb' hg hc (hlayout ▸ hrow), hcfg', hlayout,
    hphase]

end Sys2Proof.Machine

/-! The blink task of a rendered line (45_glyph_blitter.md R221, R227, R229 to R231): O50. -/

namespace Sys2Proof.Machine

/-! ### The recorded glyph (R227) -/

/-- A place whose glyph a blink task can follow. -/
def BlinkRec.blinks (cfg : Config) (r : BlinkRec) : Bool :=
  (glyph cfg r.code).isBlinking && decide (0 < trimmedWidth cfg r.code)

/-- What is recorded after the glyph of a place is drawn. -/
def BlinkRec.note (cfg : Config) (recorded : Option BlinkRec) (r : BlinkRec) : Option BlinkRec :=
  noteBlink cfg r.code r.col r.colHi recorded

theorem BlinkRec.note_eq (cfg : Config) (recorded : Option BlinkRec) (r : BlinkRec) :
    BlinkRec.note cfg recorded r = if r.blinks cfg then some r else recorded := rfl

/-- The last place that blinks is the one recorded, what was recorded before only where none blinks. -/
theorem foldl_note (cfg : Config) (places : List BlinkRec) (recorded : Option BlinkRec) :
    places.foldl (BlinkRec.note cfg) recorded = ((places.filter (BlinkRec.blinks cfg)).getLast?).or recorded := by
  induction places generalizing recorded with
  | nil => rfl
  | cons r places ih =>
    rw [List.foldl_cons, ih, BlinkRec.note_eq]
    by_cases hblinks : r.blinks cfg = true
    · rw [if_pos hblinks, List.filter_cons_of_pos hblinks, List.getLast?_cons]
      cases (places.filter (BlinkRec.blinks cfg)).getLast? <;> rfl
    · rw [if_neg hblinks, List.filter_cons_of_neg hblinks]

theorem drawText_blink (cfg : Config) (x : LineCtx) (colHi : Nat) (ts : List Byte) (d : Drawn) :
    (drawText cfg x colHi ts d).blink = (textPlaces cfg colHi ts d.col).foldl (BlinkRec.note cfg) d.blink := by
  induction ts generalizing d with
  | nil => rfl
  | cons t ts ih => exact ih _

theorem drawRight_blink (cfg : Config) (x : LineCtx) (code : Byte) (d : Drawn) :
    (drawRight cfg x code d).blink = (rightPlaces cfg code).foldl (BlinkRec.note cfg) d.blink := by
  unfold drawRight rightPlaces
  split <;> rfl

/-- Drawing a line notes its places in order. -/
theorem drawLine_snd (cfg : Config) (x : LineCtx) (content : Vector Byte 20) (cv : Canvas) :
    (drawLine cfg x content cv).2 = recordedGlyph cfg content := by
  have hnoted : (drawLine cfg x content cv).2 = (linePlaces cfg content).foldl (BlinkRec.note cfg) none := by
    rw [linePlaces_eq, List.foldl_cons, List.foldl_append]
    unfold drawLine
    simp only [drawText_blink, drawRight_blink, drawRight_col]
    rfl
  rw [hnoted, foldl_note, Option.or_none]
  rfl

/-! ### O50 -/

theorem State.renderLine_eq_updateTask (s : State) (line : Fin 4) (content : Vector Byte 20) (isInternal : Bool) :
    s.renderLine line content isInternal =
      (s.withCanvas (drawLine s.cfg (s.lineCtx line content[1]) content s.canvas).1).updateTask line
        (s.lineCtx line content[1]) isInternal (recordedGlyph s.cfg content) := by
  rw [← drawLine_snd s.cfg (s.lineCtx line content[1]) content s.canvas]
  rfl

theorem State.modTask_task_same (s : State) (line : Fin 4) (f : BlinkTask → BlinkTask) :
    (s.modTask line f).task[line.val] = f s.task[line.val] := by
  rw [State.modTask_task, Vector.getElem_set_self]

theorem State.modTask_task_other (s : State) {line k : Fin 4} (f : BlinkTask → BlinkTask) (h : k ≠ line) :
    (s.modTask line f).task[k.val] = s.task[k.val] := by
  rw [State.modTask_task, Vector.getElem_set_ne _ _ (Fin.val_ne_of_ne h.symm)]

/-- The three ways a render can leave the task of its line (R229 to R231). -/
theorem State.updateTask_cases (s : State) (line : Fin 4) (x : LineCtx) (isInternal : Bool) (r : Option BlinkRec) :
    (∃ p, r = some p ∧ isInternal = false ∧
      s.updateTask line x isInternal r = (s.modTask line fun _ => blinkTaskOf x p).armScheduler) ∨
    (∃ p, r = some p ∧ isInternal = true ∧ s.cfg.internalKeepsTask = true ∧ s.updateTask line x isInternal r = s) ∨
    ((r = none ∨ isInternal = true ∧ s.cfg.internalKeepsTask = false) ∧
      s.updateTask line x isInternal r = s.killTask line) := by
  cases r with
  | none => exact .inr (.inr ⟨.inl rfl, rfl⟩)
  | some p =>
    cases isInternal with
    | false => exact .inl ⟨p, rfl, rfl, rfl⟩
    | true =>
      cases hkeep : s.cfg.internalKeepsTask with
      | true => exact .inr (.inl ⟨p, rfl, rfl, rfl, if_pos hkeep⟩)
      | false => exact .inr (.inr ⟨.inr ⟨rfl, rfl⟩, (if_neg (by simp [hkeep]))⟩)

theorem exec_renderLine_of_no_line (s : State) {line : Nat} (content : Vector Byte 20) (isInternal : Bool)
    (h : 4 ≤ line) :
    exec (.renderLine line content isInternal) s = .refused (.lineOutOfDomain line) := dif_neg (Nat.not_lt.mpr h)

/-- Settles O50: the recorded glyph decides between installing, keeping and removing the task. -/
theorem renderKeepsTheBlinkTask : Obligations.RenderKeepsTheBlinkTask := by
  refine ⟨fun s line content isInternal => exec_renderLine_of_no_line s content isInternal,
    fun s line content isInternal => ⟨_, exec_renderLine s line content isInternal, ?_⟩⟩
  rw [State.renderLine_eq_updateTask]
  generalize (drawLine s.cfg (s.lineCtx line content[1]) content s.canvas).1 = cv
  have hother (f : BlinkTask → BlinkTask) (k : Fin 4) (hk : k ≠ line) :=
    State.modTask_task_other (s.withCanvas cv) f hk
  have hsame := State.modTask_task_same (s.withCanvas cv) line
  rcases (s.withCanvas cv).updateTask_cases line (s.lineCtx line content[1]) isInternal
    (recordedGlyph s.cfg content) with
    ⟨p, hrec, rfl, htask⟩ | ⟨p, hrec, rfl, hkeep, htask⟩ | ⟨hremove, htask⟩
  · rw [htask, hrec]
    exact ⟨hother fun _ => blinkTaskOf _ p, fun _ => ⟨hsame fun _ => blinkTaskOf _ p, rfl, rfl⟩, nofun, nofun⟩
  · rw [htask, hrec]
    exact ⟨fun _ _ => rfl, nofun, fun _ _ => ⟨rfl, rfl, rfl⟩, fun _ hdrop => absurd (hkeep.symm.trans hdrop) nofun⟩
  · rw [htask]
    refine ⟨hother _, ?_⟩
    rcases hremove with hnone | ⟨rfl, hdrop⟩
    · rw [hnone]
      exact ⟨hsame _, rfl, rfl⟩
    · cases recordedGlyph s.cfg content with
      | none => exact ⟨hsame _, rfl, rfl⟩
      | some p =>
        exact ⟨nofun, fun _ hkeep => absurd (hkeep.symm.trans hdrop) nofun, fun _ _ => ⟨hsame _, rfl, rfl⟩⟩

end Sys2Proof.Machine

/-! `PUT_LINE` and its cache (45_glyph_blitter.md R232, R233): O51. -/

namespace Sys2Proof.Machine

/-- A text within a line is padded with `0x00` (R232). -/
theorem padLine_toList_of_le {text : List Byte} (h : text.length ≤ 20) :
    (padLine text).toList = text ++ List.replicate (20 - text.length) 0 := by
  unfold padLine
  rw [overwrite_toList text _ 0 (by omega), Vector.toList_replicate, Nat.zero_add, List.drop_replicate]
  rfl

theorem exec_putLine_of_rejected (s : State) {text : List Byte} {line : Nat}
    (h : N_LINES ≤ line ∨ LINE_BUDGET < text.length) :
    exec (.putLine text line) s = .next (s.ret (.flag false)) := by
  change Host.Outcome.next ((s.putLine text line).1.ret (.flag (s.putLine text line).2)) = _
  rcases s.putLine_cases text line with ⟨-, hput⟩ | ⟨hline, hlen, -⟩
  · rw [hput]
  · exact absurd h (not_or.mpr ⟨Nat.not_le.mpr hline, Nat.not_lt.mpr hlen⟩)

/-- A call whose content stands in the cache changes nothing (R233). -/
theorem State.putLineAt_of_hit {s : State} {line : Fin 4} {content : Vector Byte 20}
    (h : s.cacheValid[line.val] = true ∧ content = s.linebuf[line.val]) : s.putLineAt line content = s := if_pos h

/-- Any other call stores its content and renders it (R232). -/
theorem State.putLineAt_of_miss {s : State} {line : Fin 4} {content : Vector Byte 20}
    (h : ¬(s.cacheValid[line.val] = true ∧ content = s.linebuf[line.val])) :
    s.putLineAt line content = (s.cacheLine line content).renderLine line content false := if_neg h

/-- After an accepted call the same call is a hit: it adds its result and nothing else (R233). -/
theorem exec_putLine_again (s : State) {text : List Byte} (hlen : text.length ≤ LINE_BUDGET) (l : Fin 4) (v : Ret) :
    let t := s.putLineAt l (padLine text)
    exec (.putLine text l.val) (t.ret v) = .next { t with out := t.out ++ [.ret v, .ret (.flag true)] } := by
  dsimp only
  obtain ⟨hvalid, hbuf⟩ := s.putLineAt_cached l (padLine text)
  rw [exec_putLine_of_line _ hlen, State.putLineAt_of_hit (s := State.ret _ v) ⟨hvalid, hbuf.symm⟩]
  unfold State.ret State.emit
  rw [List.append_assoc]
  rfl

/-- Settles O51: the content of a call is its padded text, and what an accepted call leaves holds it. -/
theorem putLineRejectsHitsOrRenders : Obligations.PutLineRejectsHitsOrRenders := by
  intro s text line
  refine ⟨exec_putLine_of_rejected s, ?_⟩
  rintro l rfl hlen
  have hput := exec_putLine_of_line s hlen l
  refine ⟨padLine text, padLine_toList_of_le (hlen.trans (by decide)), fun hhit => ?hit, fun hmiss => ?miss⟩
  case hit =>
    rw [hput, State.putLineAt_of_hit hhit]
    rfl
  case miss =>
    refine ⟨s.putLineAt l (padLine text), ?_, hput, exec_putLine_again s hlen l (.flag true)⟩
    rw [State.putLineAt_of_miss hmiss]
    exact exec_renderLine (s.cacheLine l (padLine text)) l (padLine text) false

end Sys2Proof.Machine

/-! `PUT_QR` and `FB_CLEAR` (45_glyph_blitter.md R234 to R238): both fill columns of pages byte by byte, each page
raised once: O55 and O56. -/

namespace Sys2Proof.Machine

/-! ### Filled pages -/

/-- The columns `cols` of page `p` written in order, column `c` with `val c`. -/
def Memory.fill (p : Nat) (val : Nat → Byte) (cols : List Nat) (m : Memory) : Memory :=
  cols.foldl (fun m c => memWrite m p c (val c)) m

/-- Page `p` filled, its version raised once. -/
def Canvas.fillPage (vb : Nat) (val : Nat → Nat → Byte) (cols : List Nat) (cv : Canvas) (p : Nat) : Canvas :=
  { fb := cv.fb.fill p (val p) cols, ver := bumpVersion vb cv.ver p }

/-- Each of `pages` filled, column `c` of page `p` with `val p c`. -/
def Canvas.fill (vb : Nat) (val : Nat → Nat → Byte) (cols pages : List Nat) (cv : Canvas) : Canvas :=
  pages.foldl (Canvas.fillPage vb val cols) cv

theorem Memory.fill_cons (p : Nat) (val : Nat → Byte) (c : Nat) (cols : List Nat) (m : Memory) :
    m.fill p val (c :: cols) = (memWrite m p c (val c)).fill p val cols := rfl

theorem Canvas.fill_cons (vb : Nat) (val : Nat → Nat → Byte) (cols : List Nat) (p : Nat) (pages : List Nat)
    (cv : Canvas) :
    cv.fill vb val cols (p :: pages) = (cv.fillPage vb val cols p).fill vb val cols pages := rfl

/-- A filled memory is canonical and has its values in the columns filled and the old bytes elsewhere. -/
theorem Memory.fill_spec {p : Nat} (hp : p < N_PAGES) (val : Nat → Byte) {cols : List Nat}
    (hcols : ∀ c ∈ cols, c < N_COLS) {m : Memory} (hm : m.wf = true) :
    (m.fill p val cols).wf = true ∧ ∀ p' c', c' < N_COLS →
      memRead (m.fill p val cols) p' c' = if p' = p ∧ c' ∈ cols then val c' else memRead m p' c' := by
  induction cols generalizing m with
  | nil => exact ⟨hm, fun _ _ _ => (if_neg fun h => List.not_mem_nil h.2).symm⟩
  | cons c cols ih =>
    have hc := hcols c List.mem_cons_self
    obtain ⟨hwf, hread⟩ := ih (fun c hc => hcols c (List.mem_cons_of_mem _ hc)) (memWrite_wf hm hp hc (val c))
    refine ⟨hwf, fun p' c' hc' => (hread p' c' hc').trans ?_⟩
    rw [memRead_memWrite hm hc hc']
    by_cases hpage : p' = p
    · by_cases hfirst : c' = c
      · simp [hpage, hfirst]
      · simp [hfirst]
    · simp [hpage]

/-- Filled pages have their values in the columns filled and the old bytes elsewhere. -/
theorem Canvas.memRead_fill (vb : Nat) (val : Nat → Nat → Byte) {cols pages : List Nat} (hcols : ∀ c ∈ cols, c < N_COLS)
    (hpages : ∀ p ∈ pages, p < N_PAGES) {cv : Canvas} (hwf : cv.fb.wf = true) {p c : Nat} (hc : c < N_COLS) :
    memRead (cv.fill vb val cols pages).fb p c = if p ∈ pages ∧ c ∈ cols then val p c else memRead cv.fb p c := by
  induction pages generalizing cv with
  | nil => exact (if_neg fun h => List.not_mem_nil h.1).symm
  | cons q pages ih =>
    obtain ⟨hwf', hread⟩ := Memory.fill_spec (hpages q List.mem_cons_self) (val q) hcols hwf
    refine (ih (fun p hp => hpages p (List.mem_cons_of_mem _ hp)) (cv := cv.fillPage vb val cols q) hwf').trans ?_
    rw [Canvas.fillPage, hread p c hc]
    by_cases hcol : c ∈ cols
    · by_cases hpage : p = q
      · simp [hpage, hcol]
      · simp [hpage]
    · simp [hcol]

/-- Filling raises the version of each page once (R236, R238). -/
theorem Canvas.ver_fill (vb : Nat) (val : Nat → Nat → Byte) (cols : List Nat) {pages : List Nat} (hnodup : pages.Nodup)
    (cv : Canvas) (p : Fin 6) :
    (cv.fill vb val cols pages).ver[p.val] = if p.val ∈ pages then (cv.ver[p.val] + 1) % 2 ^ vb else cv.ver[p.val] := by
  induction pages generalizing cv with
  | nil => rfl
  | cons q pages ih =>
    obtain ⟨hnot, hrest⟩ := List.nodup_cons.mp hnodup
    refine (ih hrest (cv.fillPage vb val cols q)).trans ?_
    rw [Canvas.fillPage, getElem_bumpVersion]
    by_cases hpage : p.val = q
    · subst hpage
      simp [hnot]
    · simp [hpage]

/-! ### The operations as filled pages -/

/-- The byte of a QR bitmap that stands in a column of the display (R234, R235). -/
def qrPicture (cfg : Config) (v offset : Nat) (contrast : Byte) (p c : Nat) : Byte :=
  qrByte cfg v p (c - offset) ^^^ contrast

theorem qrCols_eq_fill (cfg : Config) (v offset : Nat) (contrast : Byte) (row n col : Nat) (m : Memory) :
    qrCols cfg v offset contrast row n col m =
      m.fill row (qrPicture cfg v offset contrast row) (List.range' (offset + col) n) := by
  induction n generalizing col m with
  | zero => rfl
  | succ n ih =>
    rw [qrCols, ih, List.range'_succ, Memory.fill_cons, qrPicture, Nat.add_sub_cancel_left, Nat.add_assoc]

theorem qrRows_eq_fill (cfg : Config) (v offset : Nat) (contrast : Byte) (n row : Nat) (cv : Canvas) :
    qrRows cfg v offset contrast n row cv =
      cv.fill cfg.verBits (qrPicture cfg v offset contrast) (List.range' offset QR_W) (List.range' row n) := by
  induction n generalizing row cv with
  | zero => rfl
  | succ n ih =>
    rw [qrRows, ih, qrCols_eq_fill, List.range'_succ, Canvas.fill_cons, Canvas.fillPage]
    rfl

theorem clearCols_eq_fill (p n col : Nat) (m : Memory) :
    clearCols p n col m = m.fill p (fun _ => 0) (List.range' col n) := by
  induction n generalizing col m with
  | zero => rfl
  | succ n ih =>
    rw [clearCols, ih, List.range'_succ, Memory.fill_cons]

theorem clearPages_eq_fill (vb n p : Nat) (cv : Canvas) :
    clearPages vb n p cv = cv.fill vb (fun _ _ => 0) (List.range' 0 N_COLS) (List.range' p n) := by
  induction n generalizing p cv with
  | zero => rfl
  | succ n ih =>
    rw [clearPages, ih, clearCols_eq_fill, List.range'_succ, Canvas.fill_cons, Canvas.fillPage]

/-! ### O55 -/

theorem mem_pages_iff {p : Nat} : p ∈ List.range' 0 N_PAGES ↔ p < N_PAGES := by
  rw [List.mem_range'_1, Nat.zero_add]
  exact and_iff_right (Nat.zero_le p)

theorem qrByte_eq (cfg : Config) (v : Fin 5) (p : Fin 6) (k : Fin 45) :
    qrByte cfg (v.val + 3) p.val k.val = cfg.qr[v.val][p.val][k.val] := by
  simp [qrByte]

theorem State.withCanvas_ret_frame (s : State) (cv : Canvas) (v : Ret) :
    (s.withCanvas cv).ret v =
      { s with
        fb := ((s.withCanvas cv).ret v).fb
        ver := ((s.withCanvas cv).ret v).ver
        out := s.out ++ [.ret v] } := rfl

theorem exec_putQr_of_no_fit (s : State) (version : Nat) {offset : Nat} (contrast : Byte) (h : N_COLS < offset + QR_W) :
    exec (.putQr version offset contrast) s = .next (s.ret (.flag false)) := by
  change Host.Outcome.next ((s.putQr version offset contrast).1.ret (.flag (s.putQr version offset contrast).2)) = _
  rw [State.putQr, if_pos h]

/-- A bitmap that fits fills its columns of all pages (R234 to R236). -/
theorem exec_putQr_of_fit (s : State) (version : Nat) {offset : Nat} (contrast : Byte) (h : offset + QR_W ≤ N_COLS) :
    exec (.putQr version offset contrast) s =
      .next ((s.withCanvas (s.canvas.fill s.cfg.verBits (qrPicture s.cfg (qrVersion version) offset contrast)
        (List.range' offset QR_W) (List.range' 0 N_PAGES))).ret (.flag true)) := by
  change Host.Outcome.next ((s.putQr version offset contrast).1.ret (.flag (s.putQr version offset contrast).2)) = _
  rw [State.putQr, if_neg (Nat.not_lt.mpr h), qrRows_eq_fill]

/-- Settles O55: the bitmap fills 45 columns of the six pages, or nothing. -/
theorem putQrReplacesItsBytes : Obligations.PutQrReplacesItsBytes := by
  intro s version offset contrast
  refine ⟨exec_putQr_of_no_fit s version contrast, fun hfit hfb => ?_⟩
  have hexec := exec_putQr_of_fit s version contrast hfit
  have hread (p c : Nat) (hp : p < N_PAGES) (hc : c < N_COLS) := Canvas.memRead_fill s.cfg.verBits
    (qrPicture s.cfg (qrVersion version) offset contrast) (cols := List.range' offset QR_W)
    (fun c hc => (List.mem_range'_1.mp hc).2.trans_le hfit) (fun p => mem_pages_iff.mp) (cv := s.canvas) hfb (p := p) hc
  have hver (p : Fin 6) := (Canvas.ver_fill s.cfg.verBits (qrPicture s.cfg (qrVersion version) offset contrast)
    (List.range' offset QR_W) List.nodup_range' s.canvas p).trans (if_pos (mem_pages_iff.mpr p.isLt))
  simp only [List.mem_range'_1, Nat.zero_le, Nat.zero_add, true_and] at hread
  generalize s.canvas.fill s.cfg.verBits (qrPicture s.cfg (qrVersion version) offset contrast)
    (List.range' offset QR_W) (List.range' 0 N_PAGES) = cv at hexec hread hver
  refine ⟨_, hexec, s.withCanvas_ret_frame cv _, hver, fun p v k hv => ?inside, fun p c hp hc hout => ?outside⟩
  case inside =>
    have hin : offset + k.val < offset + QR_W := Nat.add_lt_add_left k.isLt offset
    refine ((hread p.val _ p.isLt (hin.trans_le hfit)).trans (if_pos ⟨p.isLt, Nat.le_add_right _ _, hin⟩)).trans ?_
    rw [qrPicture, Nat.add_sub_cancel_left, qrVersion, ← hv, qrByte_eq]
  case outside =>
    exact (hread p c hp hc).trans (if_neg fun h => hout.elim h.2.1.not_gt h.2.2.not_ge)

/-! ### O56 -/

/-- A canonical memory that reads 0 all over the display is empty (R47). -/
theorem Memory.eq_nil_of_memRead {m : Memory} (hm : m.wf = true)
    (h : ∀ p c, p < N_PAGES → c < N_COLS → memRead m p c = 0) : m = [] := by
  refine Memory.ext_pixel hm (m' := []) rfl fun g c hg hc => ?_
  have hpage : g / 8 < N_PAGES := Nat.div_lt_of_lt_mul hg
  rw [pixel, h _ _ hpage hc]
  rfl

theorem State.fbClear_canvas (s : State) :
    s.fbClear.canvas =
      s.canvas.fill s.cfg.verBits (fun _ _ => 0) (List.range' 0 N_COLS) (List.range' 0 N_PAGES) := by
  have hcanvas (cv : Canvas) :
      ({ s.withCanvas cv with
        linebuf := Vector.replicate 4 (Vector.replicate 20 0)
        cacheValid := Vector.replicate 4 false
        task := s.task.map fun t => { t with live := false } } : State).canvas = cv := rfl
  rw [State.fbClear, hcanvas, clearPages_eq_fill]

theorem State.fbClear_fb (s : State) (hfb : s.fbInv) : s.fbClear.fb = [] := by
  refine Memory.eq_nil_of_memRead (s.fbClear_fbInv hfb) fun p c hp hc => ?_
  have hcols (c : Nat) : c ∈ List.range' 0 N_COLS ↔ c < N_COLS := by simp
  rw [← State.canvas_fb, State.fbClear_canvas]
  exact (Canvas.memRead_fill _ _ (fun c => (hcols c).mp) (fun p => mem_pages_iff.mp) (cv := s.canvas) hfb hc).trans
    (if_pos ⟨mem_pages_iff.mpr hp, (hcols c).mpr hc⟩)

/-- Settles O56: clearing fills every column of every page with 0, which leaves the empty memory. -/
theorem fbClearClears : Obligations.FbClearClears := by
  intro s hfb
  refine ⟨s.fbClear, rfl, ?_, fun p => ?_, fun line => Vector.getElem_map _ _⟩
  · rw [← s.fbClear_fb hfb]
    exact s.fbClear_frame
  · simp only [← State.canvas_ver, State.fbClear_canvas]
    exact (Canvas.ver_fill s.cfg.verBits _ _ List.nodup_range' s.canvas p).trans (if_pos (mem_pages_iff.mpr p.isLt))

end Sys2Proof.Machine

/-! The tick (45_glyph_blitter.md R240): each live task's glyph is drawn again from its snapshot, on what the lines
before left: O57. -/

namespace Sys2Proof.Machine

/-! ### The canvas of a tick -/

/-- What a line of the tick leaves of the canvas, by the line's task. -/
def BlinkTask.redraw (cfg : Config) (cv : Canvas) (t : BlinkTask) : Canvas :=
  if t.live then drawTask cfg t.ticked cv else cv

theorem State.tickLine_of_not_live {s : State} {line : Fin 4} (h : s.task[line.val].live = false) :
    s.tickLine line = s := by
  rw [State.tickLine, h]
  rfl

theorem State.tickLine_canvas (s : State) (line : Fin 4) :
    (s.tickLine line).canvas = s.task[line.val].redraw s.cfg s.canvas := by
  unfold State.tickLine BlinkTask.redraw BlinkTask.ticked
  split
  · rfl
  · rfl

theorem State.tickLine_cfg (s : State) (line : Fin 4) : (s.tickLine line).cfg = s.cfg := by rw [State.tickLine_frame]

/-- A tick redraws the tasks of lines 0 to 3, each as the tick found it. -/
theorem State.blinkTick_canvas (s : State) :
    s.blinkTick.canvas = (List.finRange 4).foldl (fun cv line => s.task[line.val].redraw s.cfg cv) s.canvas := by
  unfold State.blinkTick
  simp only [State.tickLine_canvas, State.tickLine_cfg, State.tickLine_task]
  rfl

/-- Without a live task a tick is the phase's alone (R240). -/
theorem State.blinkTick_of_no_task {s : State} (h : ∀ line : Fin 4, s.task[line.val].live = false) :
    s.blinkTick = s.togglePhase := by
  have hidle (line : Fin 4) : s.togglePhase.tickLine line = s.togglePhase := State.tickLine_of_not_live (h line)
  rw [State.blinkTick, hidle, hidle, hidle, hidle]

/-! ### O57 -/

/-- `STUFF_CHAR` of a snapshot draws the task's glyph (R240). -/
theorem exec_stuffChar_of_task (x : State) {k : BlinkTask} (hlive : k.live = true) :
    exec (.stuffChar k.row0.toNat k.h.toNat k.inv.toNat (!k.hide) k.code k.col.toNat k.colHi.toNat) x =
      .next ((x.withCanvas (k.redraw x.cfg x.canvas)).ret (.num (trimmedWidth x.cfg k.code))) := by
  unfold BlinkTask.redraw BlinkTask.ticked
  rw [if_pos hlive, if_pos hlive]
  rfl

/-- The `STUFF_CHAR` calls of the live tasks among some lines leave the canvas that redrawing leaves. -/
theorem redraws_foldlM (task : Vector BlinkTask 4) (lines : List (Fin 4)) (x : State) :
    ∃ u, lines.foldlM (fun (x : State) line =>
        let k := task[line.val]
        if k.live then
          nextOf (exec (.stuffChar k.row0.toNat k.h.toNat k.inv.toNat (!k.hide) k.code k.col.toNat k.colHi.toNat) x)
        else some x) x = some u ∧
      u.canvas = lines.foldl (fun cv line => task[line.val].redraw x.cfg cv) x.canvas := by
  induction lines generalizing x with
  | nil => exact ⟨x, rfl, rfl⟩
  | cons line lines ih =>
    rw [List.foldlM_cons, List.foldl_cons]
    dsimp only
    split
    · next hlive =>
      rw [exec_stuffChar_of_task x hlive]
      exact ih (State.ret _ _)
    · next hidle =>
      rw [BlinkTask.redraw, if_neg hidle]
      exact ih x

/-- Settles O57: the tick and the calls of the live tasks' snapshots redraw the same tasks in the same order. -/
theorem tickTogglesAndRedraws : Obligations.TickTogglesAndRedraws := by
  intro s
  obtain ⟨u, hrun, hcanvas⟩ := redraws_foldlM s.task (List.finRange 4) s
  have hdrawn : s.blinkTick.canvas = u.canvas := s.blinkTick_canvas.trans hcanvas.symm
  exact ⟨s.blinkTick, rfl, rfl, s.blinkTick_frame, s.blinkTick_task, State.blinkTick_of_no_task, u, hrun,
    congrArg Canvas.fb hdrawn, congrArg Canvas.ver hdrawn⟩

end Sys2Proof.Machine

/-! The borders of a glyph (45_glyph_blitter.md R216, R217): O21. -/

namespace Sys2Proof.Machine

/-! ### The first and the last of a range -/

/-- The last of a range that has a property is the one after which none has. -/
theorem find?_reverse_range {p : Nat → Bool} {n r : Nat} (h : (List.range n).reverse.find? p = some r) :
    p r = true ∧ r < n ∧ ∀ j, r < j → j < n → p j = false := by
  induction n with
  | zero => cases h
  | succ n ih =>
    rw [List.range_succ, List.reverse_concat, List.find?_cons] at h
    cases hlast : p n with
    | true =>
      rw [hlast] at h
      obtain rfl := Option.some.inj h
      exact ⟨hlast, Nat.lt_succ_self n, fun j hlo hhi => absurd hhi (Nat.not_lt.mpr hlo)⟩
    | false =>
      rw [hlast] at h
      obtain ⟨hr, hlt, hafter⟩ := ih h
      refine ⟨hr, Nat.lt_succ_of_lt hlt, fun j hlo hhi => ?_⟩
      rcases Nat.lt_succ_iff_lt_or_eq.mp hhi with hj | rfl
      · exact hafter j hlo hj
      · exact hlast

/-! ### Trimming -/

/-- Only a trimmable icon is trimmed (R216). -/
theorem trimGlyph_of_not_trimmed {cfg : Config} {code : Byte}
    (h : ¬(127 < code.toNat ∧ (glyph cfg code).trimmable = true)) :
    trimGlyph cfg code = (0, (glyph cfg code).width) := by
  unfold trimGlyph isIcon
  exact if_neg (by simpa using h)

/-- A trimmable icon is blank, or is cut down to its first and its last column that is not (R216). -/
theorem trimGlyph_of_trimmed {cfg : Config} {code : Byte} (h : 127 < code.toNat ∧ (glyph cfg code).trimmable = true) :
    (trimGlyph cfg code = (0, 0) ∧ ∀ j < (glyph cfg code).width, glyphCol cfg code j = 0) ∨
    ∃ l r, trimGlyph cfg code = (l, r + 1) ∧ l ≤ r ∧ r < (glyph cfg code).width ∧
      glyphCol cfg code l ≠ 0 ∧ glyphCol cfg code r ≠ 0 ∧
      ∀ j < (glyph cfg code).width, j < l ∨ r < j → glyphCol cfg code j = 0 := by
  unfold trimGlyph isIcon
  dsimp only
  rw [if_pos (by simpa using h)]
  cases hfirst : (List.range (glyph cfg code).width).find? fun j => glyphCol cfg code j != 0 with
  | none =>
    refine .inl ⟨rfl, fun j hj => ?_⟩
    simpa using List.find?_eq_none.mp hfirst j (List.mem_range.mpr hj)
  | some l =>
    obtain ⟨hl, hmem, hbefore⟩ := List.find?_range_eq_some.mp hfirst
    cases hlast : (List.range (glyph cfg code).width).reverse.find? fun j => glyphCol cfg code j != 0 with
    | none => exact absurd hl (List.find?_eq_none.mp hlast l (List.mem_reverse.mpr hmem))
    | some r =>
      obtain ⟨hr, hlt, hafter⟩ := find?_reverse_range hlast
      refine .inr ⟨l, r, rfl, ?_, hlt, bne_iff_ne.mp hl, bne_iff_ne.mp hr, fun j hj hout => ?_⟩
      · by_contra hcross
        simpa [hl] using hafter l (Nat.not_le.mp hcross) (List.mem_range.mp hmem)
      · rcases hout with hlo | hhi
        · simpa using hbefore j hlo
        · simpa using hafter j hhi hj

/-- Settles O21: the borders `TRIM` answers, where it trims and where it does not. -/
theorem trimKeepsTheColumnsBetweenTheBorders : Obligations.TrimKeepsTheColumnsBetweenTheBorders := by
  intro s code
  refine ⟨(trimGlyph s.cfg code).1, (trimGlyph s.cfg code).2, rfl, rfl, ?_⟩
  by_cases htrim : 127 < code.toNat ∧ (glyph s.cfg code).trimmable = true
  · rw [if_pos htrim]
    rcases trimGlyph_of_trimmed htrim with ⟨hborders, hblank⟩ | ⟨l, r, hborders, hle, hlt, hl, hr, hout⟩
    · rw [hborders]
      exact ⟨Nat.le_refl 0, Nat.zero_le _, fun j hj _ => hblank j hj, fun h => absurd h (Nat.lt_irrefl 0), fun _ => rfl⟩
    · rw [hborders]
      exact ⟨Nat.le_succ_of_le hle, hlt, fun j hj => hout j hj, fun _ => ⟨hl, hr⟩,
        fun h => absurd hle (Nat.not_le.mpr (Nat.lt_of_lt_of_eq (Nat.lt_succ_self r) h.symm))⟩
  · rw [if_neg htrim, trimGlyph_of_not_trimmed htrim]
    exact ⟨Nat.zero_le _, Nat.le_refl _, rfl, rfl⟩

end Sys2Proof.Machine

/-! The drain (46_drain_sequencer.md): one equation for each case of a call (R253 to R256), O58; then the calls of a whole
flush, the clean ones and the 128 of the page (R258, R259), O59. -/

namespace Sys2Proof.Machine

/-! ### One call -/

/-- A call of `DRAIN_STEP`: its effect, then its result to the caller (log 2). -/
def State.drainCall (s : State) : State := s.drainStep.1.ret (.flag s.drainStep.2)

theorem exec_drainStep (s : State) : exec .drainStep s = .next s.drainCall := rfl

/-- The data word of one column of a page (R255). -/
def State.columnWord (s : State) (p : Fin 6) (c : Nat) : Output := .ctrlData (dataWord s.cfg (memRead s.fb p.val c))

theorem State.dirty_iff {s : State} {p : Fin 6} : s.dirty p = true ↔ s.ver[p.val] ≠ s.sent[p.val] := bne_iff_ne

theorem State.dirty_eq_false_iff {s : State} {p : Fin 6} : s.dirty p = false ↔ s.ver[p.val] = s.sent[p.val] :=
  bne_eq_false_iff_eq

/-- Before column 127 a column is one word and moves the cursor (R255). -/
theorem State.drainColumn_of_ne_last {s : State} (h : s.drainCol ≠ 127) :
    s.drainColumn =
      ({ s with drainCol := s.drainCol + 1, out := s.out ++ [s.columnWord s.drainPage s.drainCol.val] }, false) := by
  have hnext : s.drainCol.val + 1 < N_COLS := by simp only [N_COLS]; omega
  have hcol : (⟨s.drainCol.val + 1, hnext⟩ : Fin 128) = s.drainCol + 1 :=
    Fin.ext (Fin.val_add_one_of_lt' hnext).symm
  unfold State.drainColumn
  rw [dif_pos hnext, hcol]
  rfl

/-- Column 127 is followed by `DISPLAY_ON` and records the version (R256). -/
theorem State.drainColumn_of_last {s : State} (h : s.drainCol = 127) :
    s.drainColumn =
      ({ s with
          drainCol := 0
          sent := s.sent.set s.drainPage.val s.ver[s.drainPage.val] s.drainPage.isLt
          out := s.out ++ [s.columnWord s.drainPage 127] ++ [.ctrlCmd .displayOn] }, true) := by
  have hend : ¬s.drainCol.val + 1 < N_COLS := by rw [h]; decide
  unfold State.drainColumn
  rw [dif_neg hend, h]
  rfl

/-- A clean page is passed over without a word to the controller (R253). -/
theorem State.drainCall_of_clean {s : State} (hcol : s.drainCol = 0) (hclean : s.dirty (pageNext s.drainPage) = false) :
    s.drainCall = { s with drainPage := pageNext s.drainPage, out := s.out ++ [.ret (.flag false)] } := by
  unfold State.drainCall
  rcases s.drainStep_cases with ⟨-, -, h⟩ | ⟨-, hdirty, -⟩ | ⟨hne, -⟩
  · rw [h]; rfl
  · exact absurd hdirty (by rw [hclean]; decide)
  · exact absurd hcol hne

/-- A dirty page is selected and its first word sent in the same call (R254). -/
theorem State.drainCall_of_dirty {s : State} (hcol : s.drainCol = 0) (hdirty : s.dirty (pageNext s.drainPage) = true) :
    s.drainCall =
      { s with
        drainPage := pageNext s.drainPage
        drainCol := 1
        out := s.out ++ [.ctrlCmd (.pageSelect (pageNext s.drainPage)), .ctrlCmd (.columnAddress 0),
          s.columnWord (pageNext s.drainPage) 0, .ret (.flag false)] } := by
  unfold State.drainCall
  rcases s.drainStep_cases with ⟨-, hclean, -⟩ | ⟨-, -, h⟩ | ⟨hne, -⟩
  · exact absurd hdirty (by rw [hclean]; decide)
  · rw [h, State.drainColumn_of_ne_last (by simp [hcol])]
    simp [State.ret, State.emit, State.columnWord, hcol]
  · exact absurd hcol hne

/-- An open page goes on with the column under the cursor (R255). -/
theorem State.drainCall_of_open {s : State} (hcol : s.drainCol ≠ 0) (hlast : s.drainCol ≠ 127) :
    s.drainCall =
      { s with
        drainCol := s.drainCol + 1
        out := s.out ++ [s.columnWord s.drainPage s.drainCol.val, .ret (.flag false)] } := by
  unfold State.drainCall
  rcases s.drainStep_cases with ⟨h0, -⟩ | ⟨h0, -⟩ | ⟨-, h⟩
  · exact absurd h0 hcol
  · exact absurd h0 hcol
  · rw [h, State.drainColumn_of_ne_last hlast]
    simp [State.ret, State.emit]

/-- The last column of an open page completes it (R256). -/
theorem State.drainCall_of_last {s : State} (hlast : s.drainCol = 127) :
    s.drainCall =
      { s with
        drainCol := 0
        sent := s.sent.set s.drainPage.val s.ver[s.drainPage.val] s.drainPage.isLt
        out := s.out ++ [s.columnWord s.drainPage 127, .ctrlCmd .displayOn, .ret (.flag true)] } := by
  have hcol : s.drainCol ≠ 0 := by rw [hlast]; decide
  unfold State.drainCall
  rcases s.drainStep_cases with ⟨h0, -⟩ | ⟨h0, -⟩ | ⟨-, h⟩
  · exact absurd h0 hcol
  · exact absurd h0 hcol
  · rw [h, State.drainColumn_of_last hlast]
    simp [State.ret, State.emit]

/-- Settles O58, by the column: 0 with a clean page, 0 with a dirty one, between, and 127. -/
theorem drainStepIsItsPseudocode : Obligations.DrainStepIsItsPseudocode := by
  intro s
  rw [exec_drainStep]
  by_cases hcol : s.drainCol = 0
  · have hlast : s.drainCol ≠ 127 := by rw [hcol]; decide
    simp only [if_pos hcol]
    refine ⟨fun _ hclean => ?_, fun hgo => ⟨fun _ => ?_, fun h => absurd h hlast⟩⟩
    · rw [State.drainCall_of_clean hcol (State.dirty_eq_false_iff.mpr hclean)]
      rfl
    · have hdirty : s.dirty (pageNext s.drainPage) = true :=
        State.dirty_iff.mpr (hgo.resolve_left fun hne => hne hcol)
      rw [State.drainCall_of_dirty hcol hdirty]
      simp [State.columnWord, dataWord, pageNext, hcol]
  · simp only [if_neg hcol]
    refine ⟨fun h => absurd h hcol, fun _ => ⟨fun hlast => ?_, fun hlast => ?_⟩⟩
    · rw [State.drainCall_of_open hcol hlast]
      simp [State.columnWord, dataWord]
    · rw [State.drainCall_of_last hlast]
      simp [State.columnWord, dataWord, hlast]

/-! ### The calls of a flush -/

theorem execTimes_drainStep (n : Nat) (s : State) : execTimes .drainStep n s = .next (State.drainCall^[n] s) := by
  induction n generalizing s with
  | zero => rfl
  | succ n ih => exact ih s.drainCall

theorem pageNext_iterate (p k : Fin 6) : pageNext^[k.val] p = p + k := by revert p k; decide

/-- The state with the drain cursor at a page and column and more output: what a call before the completion leaves. -/
def State.drainedTo (s : State) (p : Fin 6) (c : Fin 128) (out : List Output) : State :=
  { s with drainPage := p, drainCol := c, out := s.out ++ out }

/-- `n` calls between pages pass over `n` clean pages (R253). -/
theorem State.drainCall_iterate_of_clean {s : State} (hcol : s.drainCol = 0) (n : Nat)
    (hclean : ∀ j < n, s.dirty (pageNext (pageNext^[j] s.drainPage)) = false) :
    State.drainCall^[n] s = s.drainedTo (pageNext^[n] s.drainPage) 0 (List.replicate n (.ret (.flag false))) := by
  induction n with
  | zero => simp [State.drainedTo, ← hcol]
  | succ n ih =>
    rw [Function.iterate_succ_apply', ih fun j hj => hclean j (Nat.lt_succ_of_lt hj),
      State.drainCall_of_clean rfl (hclean n (Nat.lt_succ_self n)), Function.iterate_succ_apply']
    simp [State.drainedTo, List.replicate_succ']

/-- What the calls for the first `n` columns of a page emit before its last one: the start (R254), then each word with the
result 0 (R255). -/
def State.pageCalls (s : State) (p : Fin 6) (n : Nat) : List Output :=
  [.ctrlCmd (.pageSelect p), .ctrlCmd (.columnAddress 0)] ++
    (List.range n).flatMap fun c => [s.columnWord p c, .ret (.flag false)]

theorem State.pageCalls_succ (s : State) (p : Fin 6) (n : Nat) :
    s.pageCalls p (n + 1) = s.pageCalls p n ++ [s.columnWord p n, .ret (.flag false)] := by
  simp [State.pageCalls, List.range_succ]

/-- After `n + 1` calls on a dirty page its first `n + 1` words are sent, while that is not the whole page. -/
theorem State.drainCall_iterate_of_dirty {s : State} (hcol : s.drainCol = 0)
    (hdirty : s.dirty (pageNext s.drainPage) = true) (n : Nat) (hn : n + 1 < 128) :
    State.drainCall^[n + 1] s =
      s.drainedTo (pageNext s.drainPage) ⟨n + 1, hn⟩ (s.pageCalls (pageNext s.drainPage) (n + 1)) := by
  induction n with
  | zero => exact State.drainCall_of_dirty hcol hdirty
  | succ n ih =>
    have hc : n + 1 < 128 := Nat.lt_of_succ_lt hn
    have hopen : (⟨n + 1, hc⟩ : Fin 128) ≠ 0 := Fin.ne_of_val_ne (Nat.succ_ne_zero n)
    have hlast : (⟨n + 1, hc⟩ : Fin 128) ≠ 127 := Fin.ne_of_val_ne (Nat.ne_of_lt (Nat.lt_of_succ_lt_succ hn))
    have hnext : (⟨n + 1, hc⟩ : Fin 128) + 1 = ⟨n + 1 + 1, hn⟩ := Fin.ext (Fin.val_add_one_of_lt' hn)
    rw [Function.iterate_succ_apply', ih hc, State.drainCall_of_open hopen hlast, s.pageCalls_succ _ (n + 1)]
    simp [State.drainedTo, State.columnWord, hnext]

/-- What the 128 calls on a page emit (R255, R256). -/
def State.flushCalls (s : State) (p : Fin 6) : List Output :=
  s.pageCalls p 127 ++ [s.columnWord p 127, .ctrlCmd .displayOn, .ret (.flag true)]

/-- The next page, when it is dirty, is flushed by 128 calls. -/
theorem State.drainCall_iterate_page {s : State} {p : Fin 6} (hcol : s.drainCol = 0) (hp : pageNext s.drainPage = p)
    (hdirty : s.dirty p = true) :
    State.drainCall^[128] s =
      { s with
        drainPage := p
        sent := s.sent.set p.val s.ver[p.val] p.isLt
        out := s.out ++ s.flushCalls p } := by
  subst hp
  rw [Function.iterate_succ_apply', State.drainCall_iterate_of_dirty hcol hdirty 126 (by decide),
    State.drainCall_of_last rfl]
  simp [State.drainedTo, State.flushCalls, State.columnWord, hcol]

/-- A dirty page behind `n` clean ones is flushed by `n + 128` calls (R258). -/
theorem State.drainCall_iterate_flush {s : State} {p : Fin 6} (hcol : s.drainCol = 0) (n : Nat)
    (hclean : ∀ j < n, s.dirty (pageNext (pageNext^[j] s.drainPage)) = false)
    (hp : pageNext (pageNext^[n] s.drainPage) = p) (hdirty : s.dirty p = true) :
    State.drainCall^[n + 128] s =
      { s with
        drainPage := p
        sent := s.sent.set p.val s.ver[p.val] p.isLt
        out := s.out ++ (List.replicate n (.ret (.flag false)) ++ s.flushCalls p) } := by
  have hpage := State.drainCall_iterate_page (p := p)
    (s := s.drainedTo (pageNext^[n] s.drainPage) 0 (List.replicate n (.ret (.flag false)))) rfl hp hdirty
  rw [Nat.add_comm, Function.iterate_add_apply, State.drainCall_iterate_of_clean hcol n hclean, hpage]
  simp only [State.drainedTo, ← hcol, List.append_assoc]
  rfl

/-- The controller sees of a flush its page and nothing else (R259). -/
theorem State.flushCalls_filter_isController (s : State) (p : Fin 6) :
    (s.flushCalls p).filter Output.isController = pageOutput s.cfg s.fb p := by
  have hword (c : Nat) : [s.columnWord p c, .ret (.flag false)].filter Output.isController = [s.columnWord p c] := rfl
  have hrange : List.range N_COLS = List.range 127 ++ [127] := List.range_succ
  simp only [State.flushCalls, State.pageCalls, List.filter_append, List.filter_flatMap, hword, pageOutput, hrange,
    List.map_append, List.append_assoc, ← List.map_eq_flatMap]
  rfl

/-- Of the results of a flush, the last one alone is 1 (R258). -/
theorem State.flushCalls_count_done (s : State) (p : Fin 6) : (s.flushCalls p).count (.ret (.flag true)) = 1 := by
  have hword (c : Nat) : [s.columnWord p c, .ret (.flag false)].count (.ret (.flag true)) = 0 := rfl
  simp only [State.flushCalls, State.pageCalls, List.count_append, List.count_flatMap, Function.comp_def, hword,
    List.map_const', List.sum_replicate_nat, Nat.mul_zero]
  rfl

/-- Settles O59: the clean calls reach the page before the dirty one, and the 128 after them flush it. -/
theorem flushSendsTheNextDirtyPage : Obligations.FlushSendsTheNextDirtyPage := by
  intro s k hcol p hdirty hclean
  have hpage (j : Fin 6) : pageNext (pageNext^[j.val] s.drainPage) = s.drainPage + 1 + j := by
    rw [pageNext_iterate, pageNext, add_right_comm]
  have hflush := State.drainCall_iterate_flush hcol k.val
    (fun j hj => by
      rw [hpage ⟨j, hj.trans k.isLt⟩]
      exact State.dirty_eq_false_iff.mpr (hclean ⟨j, hj.trans k.isLt⟩ hj))
    (hpage k) (State.dirty_iff.mpr hdirty)
  refine ⟨_, execTimes_drainStep _ s, ?_⟩
  rw [hflush]
  refine ⟨rfl, ?_, ?_, ?_⟩
  · simp [s.flushCalls_filter_isController, Output.isController, p]
  · simp [State.flushCalls]
  · simp [s.flushCalls_count_done, List.count_replicate]

end Sys2Proof.Machine

/-! The error path as an instruction (60_exceptions.md R275, R276): its pseudocode (O32) and what it leaves alone (O33);
and that every row completes (R265, R274; O60). -/

namespace Sys2Proof.Machine

/-! ### The error path runs in every state -/

theorem exec_rxErrorPath (s : State) (cls : ErrClass) : exec (.rxErrorPath cls) s = .next s.errorPath := rfl

theorem exec_rxDecodeError (s : State) (b : Byte) : exec (.rxDecodeError b) s = .next s.errorPath := rfl

/-- Settles O32: both rows run the one error path, whatever the class or the byte. -/
theorem errorPathSetsErrAndArms : Obligations.ErrorPathSetsErrAndArms :=
  fun s cls b => ⟨exec_rxErrorPath s cls, exec_rxDecodeError s b⟩

/-! ### What the error path does to the slots -/

/-- The current slot has `ERR` set and is put in the queue; from there it goes on by at most one step. -/
theorem State.errorPath_advances_current (s : State) :
    ({ s.slot s.rxIdx with err := true, ack := .toBeSend } : Slot).Advances (s.errorPath.slot s.rxIdx) := by
  have harm : (((s.setErr s.rxIdx).setAck s.rxIdx .toBeSend).slot s.rxIdx).Advances (s.errorPath.slot s.rxIdx) :=
    (s.setErr s.rxIdx).arm_advances s.rxIdx s.rxIdx
  rwa [State.slot_setAck, if_pos rfl, State.slot_setErr, if_pos rfl] at harm

/-- An error path leaves the current slot armed or already being sent (R276). -/
theorem State.errorPath_ack_ne_notReady (s : State) : (s.errorPath.slot s.rxIdx).ack ≠ .notReady := by
  intro h
  have harmed : Ack.toBeSend = .notReady := s.errorPath_advances_current.notReady_iff.mp h
  cases harmed

/-! ### What the error path puts out -/

/-- A pump puts out nothing or one byte (R189). -/
theorem State.txPump_out_cases (s : State) : s.txPump.out = s.out ∨ ∃ b, s.txPump.out = s.out ++ [.txPut b] := by
  rcases s.txPump_cases with ⟨-, -, h⟩ | ⟨i, -, -, h⟩ | ⟨-, b, h⟩
  · exact .inl (by rw [h, State.setBusy_out])
  · exact .inr ⟨STX, by rw [h, State.started, State.txPut_out, State.setAck_out]⟩
  · exact .inr ⟨b, by rw [h, State.txPut_out, State.txStream_out]⟩

/-- Arming pumps where the transmitter is idle, and only there (R181). -/
theorem State.arm_out_cases (s : State) (i : Fin 3) : (s.arm i).out = s.out ∨ ∃ b, (s.arm i).out = s.out ++ [.txPut b] := by
  by_cases hbusy : s.txBusy = true
  · exact .inl (by rw [State.arm_of_busy hbusy, State.setAck_out])
  · rw [State.arm_of_idle hbusy]
    exact (s.setAck i .toBeSend).txPump_out_cases

theorem State.errorPath_out_cases (s : State) :
    s.errorPath.out = s.out ∨ ∃ b, s.errorPath.out = s.out ++ [.txPut b] :=
  (s.setErr s.rxIdx).arm_out_cases s.rxIdx

/-- Settles O33: the frame of the error path, then the current slot, the other slots, the calls and the output. -/
theorem errorPathLeavesTheRest : Obligations.ErrorPathLeavesTheRest := fun s cls =>
  ⟨s.errorPath, exec_rxErrorPath s cls,
    s.errorPath_frame,
    s.errorPath_advances_current.eq_withAck,
    s.errorPath_ack_ne_notReady,
    fun _ hj => (s.errorPath_advances_other hj).eq_withAck,
    s.errorPath_dispatches,
    s.errorPath_out_cases⟩

/-! ### Every row completes -/

theorem exec_putLine (s : State) (text : List Byte) (line : Nat) :
    exec (.putLine text line) s = .next ((s.putLine text line).1.ret (.flag (s.putLine text line).2)) := rfl

/-- Settles O60, by the kind of the row: the reception of a frame or of a symbol, a result handed over, a line put; of the
operations only `RENDER_LINE` has a domain (R221), every other one is a total function on states. -/
theorem everyRowCompletes : Obligations.EveryRowCompletes := by
  intro i s hline
  cases i with
  | rdkeys | wrline | setbl | clrdsp | setlang | getver | buzparam | buzctrl => exact ⟨_, (exec_of_request rfl s).2⟩
  | stx | etx | nul | digit0 | digit1 | digit2 | digit3 | digit4 | digit5 | digit6 | digit7 | digit8 | digit9 | digitA
  | digitB | digitC | digitD | digitE | digitF => exact ⟨_, exec_of_wireByte rfl s⟩
  | crc16Update | crc16 | hex2nib | nib2hex | hex2 | hex4 | isStx | isEtx | validate | trim | tw =>
    exact ⟨_, exec_of_pureResult rfl⟩
  | fmtInv | fmtAl | fmtAr | fmtBlink => exact ⟨_, (exec_of_format rfl).trans (exec_putLine s _ _)⟩
  | renderLine line content isInternal =>
    exact ⟨_, exec_renderLine s ⟨line, hline line content isInternal rfl⟩ content isInternal⟩
  | csNoerr | csErr | ctrlData | pageSelect | columnAddress | displayOn | reset | rxByte | txDone | tick | drainStep
  | txPut | dispatch | schedArm | rxStx | rxNoise | rxEtx | rxVpn | rxVcmd | rxVpay | rxVcrc | rxFieldDigit
  | rxDecodeError | rxFieldChoice | rxErrorPath | arm | clearSlot | txPump | txNext | txFill | writeBits | stuffChar
  | blankCol | putLine | putQr | fbClear | blinkTick => exact ⟨_, rfl⟩

end Sys2Proof.Machine

/-! The fields of a packet (30_encoding.md R85 to R100; log 1): for each field helper of the decoder, the bytes it reads
as a value are the bytes the encoder writes for that value. -/

namespace Sys2Proof.Machine

/-! ### Fields of one byte -/

theorem flagOf_eq_some_iff {b : Byte} {f : Bool} : flagOf b = some f ↔ flagByte f = b := by
  revert b f
  decide

theorem finOf_eq_some_iff {n : Nat} (hn : n ≤ 256) {b : Byte} {i : Fin n} : finOf n b = some i ↔ finByte i = b := by
  have hi := i.isLt
  unfold finOf finByte
  constructor
  · intro h
    split at h
    · obtain rfl := Option.some.inj h
      bv_omega
    · cases h
  · rintro rfl
    have hval : (BitVec.ofNat 8 i.val).toNat = i.val := by bv_omega
    simp only [hval, dif_pos hi]

theorem nibOf_eq_some_iff {b : Byte} {n : Nibble} : nibOf b = some n ↔ n.zeroExtend 8 = b := by
  unfold nibOf
  constructor
  · intro h
    split at h
    · obtain rfl := Option.some.inj h
      bv_omega
    · cases h
  · rintro rfl
    rw [if_pos (by bv_omega)]
    exact congrArg some (by bv_omega)

theorem errClassOfCode_eq_some_iff {b : Byte} {cls : ErrClass} : ErrClass.ofCode b = some cls ↔ cls.code = b := by
  constructor
  · intro h
    unfold ErrClass.ofCode at h
    split_ifs at h with hdecode hvalidation hchecksum
    · obtain rfl := Option.some.inj h
      exact hdecode.symm
    · obtain rfl := Option.some.inj h
      exact hvalidation.symm
    · obtain rfl := Option.some.inj h
      exact hchecksum.symm
  · rintro rfl
    cases cls <;> rfl

theorem byte_ofNat_toNat (b : Byte) : BitVec.ofNat 8 b.toNat = b := by simp

theorem byte_toNat_ofNat {n : Nat} (h : n < 256) : (BitVec.ofNat 8 n).toNat = n := by bv_omega

/-! ### Fields of several bytes -/

theorem vecOf_eq_some_iff {n : Nat} {bs : List Byte} {v : Vector Byte n} : vecOf n bs = some v ↔ v.toList = bs := by
  unfold vecOf
  constructor
  · intro h
    split at h
    · obtain rfl := Option.some.inj h
      exact Vector.toList_mk
    · cases h
  · rintro rfl
    rw [dif_pos Vector.length_toList]
    exact congrArg some (Vector.toList_inj.mp Vector.toList_mk)

/-- A bit vector is put together from two parts exactly where it is cut into them. -/
theorem append_eq_iff_extractLsb' {w v : Nat} {hi : BitVec w} {lo : BitVec v} {x : BitVec (w + v)} :
    hi ++ lo = x ↔ x.extractLsb' v w = hi ∧ x.extractLsb' 0 v = lo := by
  constructor
  · rintro rfl
    exact ⟨BitVec.extractLsb'_append_eq_left, BitVec.extractLsb'_append_eq_right⟩
  · rintro ⟨rfl, rfl⟩
    exact BitVec.extractLsb'_append_extractLsb'

/-! ### Numbers, most significant byte first -/

theorem beNat_append_singleton (bs : List Byte) (b : Byte) : beNat (bs ++ [b]) = beNat bs * 256 + b.toNat := by
  simp [beNat]

theorem beNat_lt (bs : List Byte) : beNat bs < 256 ^ bs.length := by
  induction bs using List.reverseRecOn with
  | nil => simp [beNat]
  | append_singleton bs b ih =>
    have hb := b.isLt
    rw [beNat_append_singleton, List.length_append, List.length_singleton, Nat.pow_succ]
    omega

theorem length_beBytes (k v : Nat) : (beBytes k v).length = k := by
  induction k generalizing v with
  | zero => rfl
  | succ k ih => rw [beBytes, List.length_append, ih, List.length_singleton]

theorem beNat_beBytes {k v : Nat} (h : v < 256 ^ k) : beNat (beBytes k v) = v := by
  induction k generalizing v with
  | zero =>
    rw [Nat.pow_zero, Nat.lt_one_iff] at h
    exact h.symm
  | succ k ih =>
    rw [Nat.pow_succ] at h
    rw [beBytes, beNat_append_singleton, ih (by omega), BitVec.toNat_ofNat]
    omega

theorem beBytes_beNat (bs : List Byte) : beBytes bs.length (beNat bs) = bs := by
  induction bs using List.reverseRecOn with
  | nil => rfl
  | append_singleton bs b ih =>
    have hb := b.isLt
    have hdiv : (beNat bs * 256 + b.toNat) / 256 = beNat bs := by omega
    have hbyte : BitVec.ofNat 8 (beNat bs * 256 + b.toNat) = b := by bv_omega
    rw [beNat_append_singleton, List.length_append, List.length_singleton, beBytes, hdiv, ih, hbyte]

/-- The eight bytes of a 64-bit number. -/
theorem beNat_eq_iff {bs : List Byte} {v : Nat} : bs.length = 8 ∧ beNat bs = v ↔ v < 2 ^ 64 ∧ beBytes 8 v = bs := by
  constructor
  · rintro ⟨hlen, rfl⟩
    have hlt := beNat_lt bs
    rw [hlen] at hlt
    exact ⟨hlt, hlen ▸ beBytes_beNat bs⟩
  · rintro ⟨hlt, rfl⟩
    exact ⟨length_beBytes 8 v, beNat_beBytes hlt⟩

end Sys2Proof.Machine

/-! A request frame read field by field (30_encoding.md R85, R94 to R96). -/

namespace Sys2Proof.Machine

/-! ### Digits -/

/-- The uppercase digits are the ones the decoder takes (R94). -/
theorem hex2nib_false_eq_some_iff {b : Byte} {n : Nibble} : hex2nib false b = some n ↔ nib2hex n = b := by
  constructor
  · intro h
    refine nib2hex_of_hex2nib h fun hlower => ?_
    rw [hex2nib_eq_ite, if_neg (by omega), if_neg (by omega), if_neg (by simp)] at h
    cases h
  · rintro rfl
    exact hex2nib_nib2hex false n

theorem takeByte_eq_some_iff {bs rest : List Byte} {v : Byte} : takeByte bs = some (v, rest) ↔ hex2 v ++ rest = bs := by
  constructor
  · intro h
    unfold takeByte at h
    split at h
    · next a b rest' =>
      split at h
      · next x y hx hy =>
        obtain ⟨hv, rfl⟩ := Prod.mk.inj (Option.some.inj h)
        obtain ⟨hhi, hlo⟩ := append_eq_iff_extractLsb'.mp hv
        rw [hex2, hhi, hlo, hex2nib_false_eq_some_iff.mp hx, hex2nib_false_eq_some_iff.mp hy]
        rfl
      · cases h
    · cases h
  · rintro rfl
    simp only [hex2, List.cons_append, List.nil_append, takeByte, hex2nib_nib2hex]
    rw [BitVec.extractLsb'_append_extractLsb']

theorem takeBytes_eq_some_iff {n : Nat} {bs vs rest : List Byte} :
    takeBytes n bs = some (vs, rest) ↔ vs.length = n ∧ vs.flatMap hex2 ++ rest = bs := by
  induction n generalizing bs vs with
  | zero =>
    rw [takeBytes, List.length_eq_zero_iff]
    constructor
    · intro h
      obtain ⟨rfl, rfl⟩ := Prod.mk.inj (Option.some.inj h)
      exact ⟨rfl, rfl⟩
    · rintro ⟨rfl, rfl⟩
      rfl
  | succ n ih =>
    constructor
    · intro h
      rw [takeBytes] at h
      split at h
      · cases h
      · next v tail hv =>
        split at h
        · cases h
        · next ws rest' hws =>
          obtain ⟨rfl, rfl⟩ := Prod.mk.inj (Option.some.inj h)
          obtain ⟨hlen, hbytes⟩ := ih.mp hws
          refine ⟨congrArg (· + 1) hlen, ?_⟩
          rw [List.flatMap_cons, List.append_assoc, hbytes, takeByte_eq_some_iff.mp hv]
    · rintro ⟨hlen, rfl⟩
      obtain ⟨v, ws, rfl⟩ := List.exists_cons_of_length_eq_add_one hlen
      have hv : takeByte ((v :: ws).flatMap hex2 ++ rest) = some (v, ws.flatMap hex2 ++ rest) :=
        takeByte_eq_some_iff.mpr (by rw [List.flatMap_cons, List.append_assoc])
      have hws : takeBytes n (ws.flatMap hex2 ++ rest) = some (ws, rest) :=
        ih.mpr ⟨Nat.succ.inj hlen, rfl⟩
      simp only [takeBytes, hv, hws]

/-- The CRC field and the end of the frame (R85, R95). -/
theorem takeCrc_eq_some_iff {bs : List Byte} {crc : Half} : takeCrc bs = some crc ↔ hex4 crc ++ [ETX, NUL] = bs := by
  rw [hex4_eq_append, List.append_assoc]
  constructor
  · intro h
    unfold takeCrc at h
    split at h
    · cases h
    · next hi rest hhi =>
      split at h
      · cases h
      · next lo rest' hlo =>
        split at h
        · next hend =>
          obtain ⟨hcrchi, hcrclo⟩ := append_eq_iff_extractLsb'.mp (Option.some.inj h)
          rw [hcrchi, hcrclo, ← hend, takeByte_eq_some_iff.mp hlo, takeByte_eq_some_iff.mp hhi]
        · cases h
  · rintro rfl
    simp only [takeCrc, takeByte_eq_some_iff.mpr rfl, if_true]
    rw [BitVec.extractLsb'_append_extractLsb']

/-! ### The command and its operands -/

theorem tableCmd_eq_some_iff {id : Byte} {c : Cmd} : tableCmd id = some c ↔ c.tableId = id := by
  constructor
  · intro h
    exact beq_iff_eq.mp (List.find?_some (p := fun c : Cmd => c.tableId == id) h)
  · rintro rfl
    cases c <;> rfl

theorem frameInstr_eq_some_iff {c : Cmd} {pn : Byte} {p : List Byte} {crc : Half} {i : Instr} :
    frameInstr c pn p crc = some i ↔ i.request = some (c, pn, p, crc) := by
  constructor
  · intro h
    unfold frameInstr at h
    split at h
    case h_2 =>
      obtain ⟨v, hv, rfl⟩ := Option.map_eq_some_iff.mp h
      rw [← vecOf_eq_some_iff.mp hv]
      rfl
    case h_9 => cases h
    all_goals
      obtain rfl := Option.some.inj h
      rfl
  · intro h
    cases i with
    | wrline pn payload crc =>
      cases h
      exact Option.map_eq_some_iff.mpr ⟨payload, vecOf_eq_some_iff.mpr rfl, rfl⟩
    | rdkeys | setbl | clrdsp | setlang | getver | buzparam | buzctrl =>
      cases h
      rfl
    | _ => cases h

/-- A request row's payload has the catalog's length, and its packet is its frame (R85, R91). -/
theorem encode_of_request {i : Instr} {c : Cmd} {pn : Byte} {p : List Byte} {crc : Half}
    (h : i.request = some (c, pn, p, crc)) :
    p.length = c.reqLen ∧ encode i = Tag.frame.toByte :: frameBytes pn c.tableId p crc := by
  cases i with
  | wrline pn payload crc =>
    cases h
    exact ⟨payload.length_toList, rfl⟩
  | rdkeys | setbl | clrdsp | setlang | getver | buzparam | buzctrl =>
    cases h
    exact ⟨rfl, rfl⟩
  | _ => cases h

theorem frameBytes_eq_fields (pn cmd : Byte) (p : List Byte) (crc : Half) :
    frameBytes pn cmd p crc = STX :: (hex2 pn ++ (hex2 cmd ++ (p.flatMap hex2 ++ (hex4 crc ++ [ETX, NUL])))) := by
  simp [frameBytes, frameTail, frameBody]

/-- The parser reads the frames of the request rows, and nothing else (R85, R96). -/
theorem parseFrame_eq_some_iff {bs : List Byte} {i : Instr} :
    parseFrame bs = some i ↔
      ∃ c pn p crc, i.request = some (c, pn, p, crc) ∧ frameBytes pn c.tableId p crc = bs := by
  constructor
  · intro h
    unfold parseFrame at h
    split at h
    · cases h
    split at h
    case isFalse => cases h
    next hstx =>
    split at h
    · cases h
    next pn bs2 hpn =>
    split at h
    · cases h
    next id bs3 hid =>
    split at h
    · cases h
    next c hc =>
    split at h
    · cases h
    next p bs4 hp =>
    split at h
    · cases h
    next crc hcrc =>
    refine ⟨c, pn, p, crc, frameInstr_eq_some_iff.mp h, ?_⟩
    rw [frameBytes_eq_fields, takeCrc_eq_some_iff.mp hcrc, (takeBytes_eq_some_iff.mp hp).2,
      tableCmd_eq_some_iff.mp hc, takeByte_eq_some_iff.mp hid, takeByte_eq_some_iff.mp hpn, hstx]
  · rintro ⟨c, pn, p, crc, hi, rfl⟩
    have hp := (encode_of_request hi).1
    rw [frameBytes_eq_fields, parseFrame]
    simp only [if_true, takeByte_eq_some_iff.mpr rfl, tableCmd_eq_some_iff.mpr rfl, takeBytes_eq_some_iff.mpr ⟨hp, rfl⟩,
      takeCrc_eq_some_iff.mpr rfl, frameInstr_eq_some_iff.mpr hi]

end Sys2Proof.Machine

/-! The decoder and the encoder, tag by tag (assumption log 1): for each shape of operands, the bytes a row is decoded from
are the bytes its packet has after the tag; then O3 and O4. -/

namespace Sys2Proof.Machine

/-! ### Tags -/

theorem tagOfByte_eq_some_iff {b : Byte} {t : Tag} : Tag.ofByte b = some t ↔ t.toByte = b := by
  constructor
  · intro h
    exact beq_iff_eq.mp (List.find?_some (p := fun t : Tag => t.toByte == b) h)
  · rintro rfl
    cases t <;> rfl

theorem decode_toByte_cons (t : Tag) (bs : List Byte) : decode (t.toByte :: bs) = decodeBody t bs := by
  simp only [decode, tagOfByte_eq_some_iff.mpr rfl]

theorem exists_decodeBody_of_decode {bytes : List Byte} {i : Instr} (h : decode bytes = .ok i) :
    ∃ t bs, t.toByte :: bs = bytes ∧ decodeBody t bs = .ok i := by
  unfold decode at h
  split at h
  · cases h
  · next b bs =>
    split at h
    · cases h
    · next t ht => exact ⟨t, bs, congrArg (· :: bs) (tagOfByte_eq_some_iff.mp ht), h⟩

/-! ### Rows of no operand and of one byte -/

section

variable {t : Tag} {bs : List Byte} {i : Instr}

theorem noOperand_eq_ok_iff {j : Instr} : noOperand t j bs = .ok i ↔ j = i ∧ [] = bs := by
  cases bs <;> simp [noOperand]

theorem orBad_eq_ok_iff {o : Option Instr} : orBad t o = .ok i ↔ o = some i := by
  cases o <;> simp [orBad]

theorem oneByte_eq_ok_iff {f : Byte → Option Instr} : oneByte t f bs = .ok i ↔ ∃ b, f b = some i ∧ [b] = bs := by
  unfold oneByte
  split
  · next b => simp [orBad_eq_ok_iff]
  · next hne =>
    constructor
    · nofun
    · rintro ⟨b, -, rfl⟩
      exact absurd rfl (hne b)

/-- A byte taken as it is. -/
theorem oneByte_some_eq_ok_iff {mk : Byte → Instr} :
    oneByte t (fun b => some (mk b)) bs = .ok i ↔ ∃ b, mk b = i ∧ [b] = bs := by
  simp only [oneByte_eq_ok_iff, Option.some.injEq]

/-- A byte read as a value of a smaller type, written back by `write`. -/
theorem oneByte_map_eq_ok_iff {α : Type} {read : Byte → Option α} {write : α → Byte}
    (hread : ∀ {b x}, read b = some x ↔ write x = b) {mk : α → Instr} :
    oneByte t (fun b => (read b).map mk) bs = .ok i ↔ ∃ x, mk x = i ∧ [write x] = bs := by
  rw [oneByte_eq_ok_iff]
  constructor
  · rintro ⟨b, hb, rfl⟩
    obtain ⟨x, hx, rfl⟩ := Option.map_eq_some_iff.mp hb
    exact ⟨x, rfl, congrArg (fun b => [b]) (hread.mp hx)⟩
  · rintro ⟨x, rfl, rfl⟩
    exact ⟨write x, Option.map_eq_some_iff.mpr ⟨x, hread.mpr rfl, rfl⟩, rfl⟩

end

/-! ### Wire symbols, frames and field values (R85, R87, R88, R90, R97, R100) -/

theorem wireSymbol_eq_some_iff {b : Byte} {i : Instr} : wireSymbol b = some i ↔ i.wireByte = some b := by
  constructor
  · intro h
    unfold wireSymbol at h
    split at h
    case h_20 => cases h
    all_goals
      next hb =>
        obtain rfl := Option.some.inj h
        exact congrArg some (BitVec.eq_of_toNat_eq hb.symm)
  · intro h
    cases i with
    | stx | etx | nul | digit0 | digit1 | digit2 | digit3 | digit4 | digit5 | digit6 | digit7 | digit8 | digit9 | digitA
    | digitB | digitC | digitD | digitE | digitF =>
      obtain rfl := Option.some.inj h
      rfl
    | _ => cases h

theorem encode_of_wireByte {i : Instr} {b : Byte} (h : i.wireByte = some b) :
    i.wf = true ∧ encode i = [Tag.wire.toByte, b] := by
  cases i with
  | stx | etx | nul | digit0 | digit1 | digit2 | digit3 | digit4 | digit5 | digit6 | digit7 | digit8 | digit9 | digitA
  | digitB | digitC | digitD | digitE | digitF =>
    obtain rfl := Option.some.inj h
    exact ⟨rfl, rfl⟩
  | _ => cases h

section

variable {bs : List Byte} {i : Instr}

theorem decodeWire_eq_ok_iff : decodeWire bs = .ok i ↔ ∃ b, i.wireByte = some b ∧ [b] = bs := by
  constructor
  · intro h
    unfold decodeWire at h
    split at h
    case h_2 => cases h
    next b =>
    split at h
    case h_2 => cases h
    next j hj =>
    obtain rfl := Decoded.ok.inj h
    exact ⟨b, wireSymbol_eq_some_iff.mp hj, rfl⟩
  · rintro ⟨b, hb, rfl⟩
    simp only [decodeWire, wireSymbol_eq_some_iff.mpr hb]

theorem decodeFrame_eq_ok_iff :
    decodeFrame bs = .ok i ↔ ∃ c pn p crc, i.request = some (c, pn, p, crc) ∧ frameBytes pn c.tableId p crc = bs := by
  rw [← parseFrame_eq_some_iff, decodeFrame]
  cases parseFrame bs <;> simp

theorem extractNibbles_append (hi lo : Nibble) : (hi ++ lo).extractLsb' 4 4 = hi ∧ (hi ++ lo).extractLsb' 0 4 = lo :=
  append_eq_iff_extractLsb'.mp rfl

theorem decodeStatus_eq_ok_iff :
    decodeStatus bs = .ok i ↔
      ∃ id : Nibble, i = .csNoerr id ∧ [(0x0 : Nibble) ++ id] = bs ∨ i = .csErr id ∧ [(0x8 : Nibble) ++ id] = bs := by
  constructor
  · intro h
    unfold decodeStatus at h
    split at h
    case h_2 => cases h
    next b =>
    split_ifs at h with hnoerr herr
    · obtain rfl := Decoded.ok.inj h
      exact ⟨_, .inl ⟨rfl, congrArg (fun b => [b]) (append_eq_iff_extractLsb'.mpr ⟨hnoerr, rfl⟩)⟩⟩
    · obtain rfl := Decoded.ok.inj h
      exact ⟨_, .inr ⟨rfl, congrArg (fun b => [b]) (append_eq_iff_extractLsb'.mpr ⟨herr, rfl⟩)⟩⟩
  · rintro ⟨id, ⟨rfl, rfl⟩ | ⟨rfl, rfl⟩⟩
    · obtain ⟨hhi, hlo⟩ := extractNibbles_append 0x0 id
      simp only [decodeStatus, hhi, hlo, if_true]
    · obtain ⟨hhi, hlo⟩ := extractNibbles_append 0x8 id
      simp only [decodeStatus, hhi, hlo, if_true]
      rw [if_neg (by decide)]

theorem decodeFormat_eq_ok_iff {t : Tag} {bit : Nat} {mk : Byte → Byte → Byte → Vector Byte 17 → Instr} :
    decodeFormat t bit mk bs = .ok i ↔
      ∃ f line icon codes, f.getLsbD bit = true ∧ mk f line icon codes = i ∧ f :: line :: icon :: codes.toList = bs := by
  constructor
  · intro h
    unfold decodeFormat at h
    split at h
    case h_2 => cases h
    next f line icon rest =>
    rw [orBad_eq_ok_iff] at h
    split at h
    case isFalse => cases h
    next hflag =>
    obtain ⟨codes, hcodes, rfl⟩ := Option.map_eq_some_iff.mp h
    exact ⟨f, line, icon, codes, hflag, rfl, by rw [vecOf_eq_some_iff.mp hcodes]⟩
  · rintro ⟨f, line, icon, codes, hflag, rfl, rfl⟩
    rw [decodeFormat, orBad_eq_ok_iff, if_pos hflag, vecOf_eq_some_iff.mpr rfl, Option.map_some]

theorem decodeDataWord_eq_ok_iff : decodeDataWord bs = .ok i ↔ ∃ pixels, .ctrlData pixels = i ∧ [1, pixels] = bs := by
  constructor
  · intro h
    unfold decodeDataWord at h
    split at h
    case h_2 => cases h
    next hi lo =>
    split_ifs at h with hsel
    obtain rfl := Decoded.ok.inj h
    exact ⟨lo, rfl, by rw [hsel]⟩
  · rintro ⟨pixels, rfl, rfl⟩
    rfl

end

/-! ### Well-formed operands -/

theorem wf_writeBits_iff {value start width column : Nat} :
    (Instr.writeBits value start width column).wf = true ↔ value < 2 ^ 64 ∧ start < 256 ∧ width < 256 ∧ column < 256 := by
  change (decide (value < 2 ^ 64) && decide (start < 256) && decide (width < 256) && decide (column < 256)) = true ↔ _
  simp only [Bool.and_eq_true, decide_eq_true_eq, and_assoc]

theorem wf_stuffChar_iff {row0 h inv col colHi : Nat} {hide : Bool} {code : Byte} :
    (Instr.stuffChar row0 h inv hide code col colHi).wf = true ↔
      row0 < 256 ∧ h < 256 ∧ inv < 2 ^ 64 ∧ col < 256 ∧ colHi < 256 := by
  change (decide (row0 < 256) && decide (h < 256) && decide (inv < 2 ^ 64) && decide (col < 256) &&
    decide (colHi < 256)) = true ↔ _
  simp only [Bool.and_eq_true, decide_eq_true_eq, and_assoc]

theorem wf_blankCol_iff {row0 h inv col : Nat} :
    (Instr.blankCol row0 h inv col).wf = true ↔ row0 < 256 ∧ h < 256 ∧ inv < 2 ^ 64 ∧ col < 256 := by
  change (decide (row0 < 256) && decide (h < 256) && decide (inv < 2 ^ 64) && decide (col < 256)) = true ↔ _
  simp only [Bool.and_eq_true, decide_eq_true_eq, and_assoc]

theorem wf_renderLine_iff {line : Nat} {content : Vector Byte 20} {isInternal : Bool} :
    (Instr.renderLine line content isInternal).wf = true ↔ line < 256 := decide_eq_true_iff

theorem wf_putLine_iff {text : List Byte} {line : Nat} : (Instr.putLine text line).wf = true ↔ line < 256 :=
  decide_eq_true_iff

theorem wf_putQr_iff {version offset : Nat} {contrast : Byte} :
    (Instr.putQr version offset contrast).wf = true ↔ version < 256 ∧ offset < 256 := by
  change (decide (version < 256) && decide (offset < 256)) = true ↔ _
  simp only [Bool.and_eq_true, decide_eq_true_eq]

/-! ### Rows of several operands -/

section

variable {bs : List Byte} {i : Instr}

theorem decodeBody_crc16Update_three (hi lo b : Byte) :
    decodeBody .crc16Update [hi, lo, b] = .ok (.crc16Update (hi ++ lo) b) := rfl

theorem decodeBody_hex4_two (hi lo : Byte) : decodeBody .hex4 [hi, lo] = .ok (.hex4 (hi ++ lo)) := rfl

theorem decodeBody_validate_cons (id : Byte) (p : List Byte) :
    decodeBody .validate (id :: p) = orBad .validate ((vecOf 20 p).map (.validate id)) := rfl

theorem decodeBody_writeBits_cons (start width column : Byte) (value : List Byte) :
    decodeBody .writeBits (start :: width :: column :: value) =
      if value.length = 8 then .ok (.writeBits (beNat value) start.toNat width.toNat column.toNat)
      else .bad (.badOperands .writeBits) := rfl

theorem decodeBody_stuffChar_cons (row0 h hide code col colHi : Byte) (inv : List Byte) :
    decodeBody .stuffChar (row0 :: h :: hide :: code :: col :: colHi :: inv) =
      orBad .stuffChar (if inv.length = 8 then
          (flagOf hide).map fun f => .stuffChar row0.toNat h.toNat (beNat inv) f code col.toNat colHi.toNat
        else none) := rfl

theorem decodeBody_blankCol_cons (row0 h col : Byte) (inv : List Byte) :
    decodeBody .blankCol (row0 :: h :: col :: inv) =
      if inv.length = 8 then .ok (.blankCol row0.toNat h.toNat (beNat inv) col.toNat)
      else .bad (.badOperands .blankCol) := rfl

theorem decodeBody_renderLine_cons (l i : Byte) (content : List Byte) :
    decodeBody .renderLine (l :: i :: content) =
      orBad .renderLine ((flagOf i).bind fun f => (vecOf 20 content).map fun v => .renderLine l.toNat v f) := rfl

theorem decodeBody_putLine_cons (l : Byte) (text : List Byte) :
    decodeBody .putLine (l :: text) = .ok (.putLine text l.toNat) := rfl

theorem decodeBody_putQr_three (v o c : Byte) : decodeBody .putQr [v, o, c] = .ok (.putQr v.toNat o.toNat c) := rfl

theorem decodeBody_dispatch_eq_ok_iff :
    decodeBody .dispatch bs = .ok i ↔ ∃ id payload, .dispatch id payload = i ∧ id :: payload = bs := by
  constructor
  · intro h
    rcases bs with _ | ⟨id, payload⟩
    · cases h
    · exact ⟨id, payload, Decoded.ok.inj h, rfl⟩
  · rintro ⟨id, payload, rfl, rfl⟩
    rfl

theorem decodeBody_crc16Update_eq_ok_iff :
    decodeBody .crc16Update bs = .ok i ↔
      ∃ (crc : Half) (b : Byte), .crc16Update crc b = i ∧ [crc.extractLsb' 8 8, crc.extractLsb' 0 8, b] = bs := by
  constructor
  · intro h
    rcases bs with _ | ⟨hi, _ | ⟨lo, _ | ⟨b, _ | ⟨_, _⟩⟩⟩⟩
    case cons.cons.cons.nil =>
      obtain ⟨hhi, hlo⟩ := (append_eq_iff_extractLsb' (hi := hi) (lo := lo)).mp rfl
      exact ⟨hi ++ lo, b, Decoded.ok.inj h, by rw [hhi, hlo]⟩
    all_goals cases h
  · rintro ⟨crc, b, rfl, rfl⟩
    rw [decodeBody_crc16Update_three, BitVec.extractLsb'_append_extractLsb']

theorem decodeBody_hex4_eq_ok_iff :
    decodeBody .hex4 bs = .ok i ↔ ∃ v : Half, .hex4 v = i ∧ [v.extractLsb' 8 8, v.extractLsb' 0 8] = bs := by
  constructor
  · intro h
    rcases bs with _ | ⟨hi, _ | ⟨lo, _ | ⟨_, _⟩⟩⟩
    case cons.cons.nil =>
      obtain ⟨hhi, hlo⟩ := (append_eq_iff_extractLsb' (hi := hi) (lo := lo)).mp rfl
      exact ⟨hi ++ lo, Decoded.ok.inj h, by rw [hhi, hlo]⟩
    all_goals cases h
  · rintro ⟨v, rfl, rfl⟩
    rw [decodeBody_hex4_two, BitVec.extractLsb'_append_extractLsb']

theorem decodeBody_validate_eq_ok_iff :
    decodeBody .validate bs = .ok i ↔
      ∃ (id : Byte) (payload : Vector Byte 20), .validate id payload = i ∧ id :: payload.toList = bs := by
  constructor
  · intro h
    rcases bs with _ | ⟨id, p⟩
    · cases h
    rw [decodeBody_validate_cons, orBad_eq_ok_iff] at h
    obtain ⟨v, hv, rfl⟩ := Option.map_eq_some_iff.mp h
    exact ⟨id, v, rfl, by rw [vecOf_eq_some_iff.mp hv]⟩
  · rintro ⟨id, payload, rfl, rfl⟩
    rw [decodeBody_validate_cons, orBad_eq_ok_iff, vecOf_eq_some_iff.mpr rfl, Option.map_some]

theorem decodeBody_writeBits_eq_ok_iff :
    decodeBody .writeBits bs = .ok i ↔
      ∃ value start width column, (Instr.writeBits value start width column).wf = true ∧
        .writeBits value start width column = i ∧
        BitVec.ofNat 8 start :: BitVec.ofNat 8 width :: BitVec.ofNat 8 column :: beBytes 8 value = bs := by
  simp only [wf_writeBits_iff]
  constructor
  · intro h
    rcases bs with _ | ⟨start, _ | ⟨width, _ | ⟨column, value⟩⟩⟩
    case cons.cons.cons =>
      rw [decodeBody_writeBits_cons] at h
      split_ifs at h with hlen
      obtain ⟨hlt, hbytes⟩ := beNat_eq_iff.mp ⟨hlen, rfl⟩
      exact ⟨beNat value, start.toNat, width.toNat, column.toNat, ⟨hlt, start.isLt, width.isLt, column.isLt⟩,
        Decoded.ok.inj h, by simp only [byte_ofNat_toNat, hbytes]⟩
    all_goals cases h
  · rintro ⟨value, start, width, column, ⟨hvalue, hstart, hwidth, hcolumn⟩, rfl, rfl⟩
    obtain ⟨hlen, hval⟩ := beNat_eq_iff.mpr ⟨hvalue, rfl⟩
    rw [decodeBody_writeBits_cons, if_pos hlen, hval, byte_toNat_ofNat hstart, byte_toNat_ofNat hwidth,
      byte_toNat_ofNat hcolumn]

theorem decodeBody_stuffChar_eq_ok_iff :
    decodeBody .stuffChar bs = .ok i ↔
      ∃ row0 h inv hide code col colHi, (Instr.stuffChar row0 h inv hide code col colHi).wf = true ∧
        .stuffChar row0 h inv hide code col colHi = i ∧
        BitVec.ofNat 8 row0 :: BitVec.ofNat 8 h :: flagByte hide :: code :: BitVec.ofNat 8 col :: BitVec.ofNat 8 colHi ::
          beBytes 8 inv = bs := by
  simp only [wf_stuffChar_iff]
  constructor
  · intro h
    rcases bs with _ | ⟨row0, _ | ⟨height, _ | ⟨hide, _ | ⟨code, _ | ⟨col, _ | ⟨colHi, inv⟩⟩⟩⟩⟩⟩
    case cons.cons.cons.cons.cons.cons =>
      rw [decodeBody_stuffChar_cons, orBad_eq_ok_iff] at h
      split_ifs at h with hlen
      obtain ⟨f, hf, rfl⟩ := Option.map_eq_some_iff.mp h
      obtain ⟨hlt, hbytes⟩ := beNat_eq_iff.mp ⟨hlen, rfl⟩
      exact ⟨row0.toNat, height.toNat, beNat inv, f, code, col.toNat, colHi.toNat,
        ⟨row0.isLt, height.isLt, hlt, col.isLt, colHi.isLt⟩, rfl,
        by simp only [byte_ofNat_toNat, hbytes, flagOf_eq_some_iff.mp hf]⟩
    all_goals cases h
  · rintro ⟨row0, height, inv, hide, code, col, colHi, ⟨hrow0, hheight, hinv, hcol, hcolHi⟩, rfl, rfl⟩
    obtain ⟨hlen, hval⟩ := beNat_eq_iff.mpr ⟨hinv, rfl⟩
    rw [decodeBody_stuffChar_cons, orBad_eq_ok_iff, if_pos hlen, hval, flagOf_eq_some_iff.mpr rfl, Option.map_some,
      byte_toNat_ofNat hrow0, byte_toNat_ofNat hheight, byte_toNat_ofNat hcol, byte_toNat_ofNat hcolHi]

theorem decodeBody_blankCol_eq_ok_iff :
    decodeBody .blankCol bs = .ok i ↔
      ∃ row0 h inv col, (Instr.blankCol row0 h inv col).wf = true ∧ .blankCol row0 h inv col = i ∧
        BitVec.ofNat 8 row0 :: BitVec.ofNat 8 h :: BitVec.ofNat 8 col :: beBytes 8 inv = bs := by
  simp only [wf_blankCol_iff]
  constructor
  · intro h
    rcases bs with _ | ⟨row0, _ | ⟨height, _ | ⟨col, inv⟩⟩⟩
    case cons.cons.cons =>
      rw [decodeBody_blankCol_cons] at h
      split_ifs at h with hlen
      obtain ⟨hlt, hbytes⟩ := beNat_eq_iff.mp ⟨hlen, rfl⟩
      exact ⟨row0.toNat, height.toNat, beNat inv, col.toNat, ⟨row0.isLt, height.isLt, hlt, col.isLt⟩,
        Decoded.ok.inj h, by simp only [byte_ofNat_toNat, hbytes]⟩
    all_goals cases h
  · rintro ⟨row0, height, inv, col, ⟨hrow0, hheight, hinv, hcol⟩, rfl, rfl⟩
    obtain ⟨hlen, hval⟩ := beNat_eq_iff.mpr ⟨hinv, rfl⟩
    rw [decodeBody_blankCol_cons, if_pos hlen, hval, byte_toNat_ofNat hrow0, byte_toNat_ofNat hheight,
      byte_toNat_ofNat hcol]

theorem decodeBody_renderLine_eq_ok_iff :
    decodeBody .renderLine bs = .ok i ↔
      ∃ line content isInternal, (Instr.renderLine line content isInternal).wf = true ∧
        .renderLine line content isInternal = i ∧
        BitVec.ofNat 8 line :: flagByte isInternal :: content.toList = bs := by
  simp only [wf_renderLine_iff]
  constructor
  · intro h
    rcases bs with _ | ⟨line, _ | ⟨flag, content⟩⟩
    case cons.cons =>
      rw [decodeBody_renderLine_cons, orBad_eq_ok_iff] at h
      obtain ⟨f, hf, hmap⟩ := Option.bind_eq_some_iff.mp h
      obtain ⟨v, hv, rfl⟩ := Option.map_eq_some_iff.mp hmap
      exact ⟨line.toNat, v, f, line.isLt, rfl,
        by rw [byte_ofNat_toNat, flagOf_eq_some_iff.mp hf, vecOf_eq_some_iff.mp hv]⟩
    all_goals cases h
  · rintro ⟨line, content, isInternal, hline, rfl, rfl⟩
    rw [decodeBody_renderLine_cons, orBad_eq_ok_iff, flagOf_eq_some_iff.mpr rfl, vecOf_eq_some_iff.mpr rfl,
      byte_toNat_ofNat hline, Option.bind_some, Option.map_some]

theorem decodeBody_putLine_eq_ok_iff :
    decodeBody .putLine bs = .ok i ↔
      ∃ text line, (Instr.putLine text line).wf = true ∧ .putLine text line = i ∧ BitVec.ofNat 8 line :: text = bs := by
  simp only [wf_putLine_iff]
  constructor
  · intro h
    rcases bs with _ | ⟨line, text⟩
    · cases h
    · exact ⟨text, line.toNat, line.isLt, Decoded.ok.inj h, by rw [byte_ofNat_toNat]⟩
  · rintro ⟨text, line, hline, rfl, rfl⟩
    rw [decodeBody_putLine_cons, byte_toNat_ofNat hline]

theorem decodeBody_putQr_eq_ok_iff :
    decodeBody .putQr bs = .ok i ↔
      ∃ version offset contrast, (Instr.putQr version offset contrast).wf = true ∧ .putQr version offset contrast = i ∧
        [BitVec.ofNat 8 version, BitVec.ofNat 8 offset, contrast] = bs := by
  simp only [wf_putQr_iff]
  constructor
  · intro h
    rcases bs with _ | ⟨version, _ | ⟨offset, _ | ⟨contrast, _ | ⟨_, _⟩⟩⟩⟩
    case cons.cons.cons.nil =>
      exact ⟨version.toNat, offset.toNat, contrast, ⟨version.isLt, offset.isLt⟩, Decoded.ok.inj h,
        by simp only [byte_ofNat_toNat]⟩
    all_goals cases h
  · rintro ⟨version, offset, contrast, ⟨hversion, hoffset⟩, rfl, rfl⟩
    rw [decodeBody_putQr_three, byte_toNat_ofNat hversion, byte_toNat_ofNat hoffset]

end

/-! ### O3 -/

theorem wf_of_request {i : Instr} {r : Cmd × Byte × List Byte × Half} (h : i.request = some r) : i.wf = true := by
  cases i with
  | rdkeys | wrline | setbl | clrdsp | setlang | getver | buzparam | buzctrl => rfl
  | _ => cases h

/-- What stands after the tag decides: a packet whose body decodes to its instruction decodes to it. -/
theorem decode_encode_of_body {i : Instr} {t : Tag} {bs : List Byte} (henc : encode i = t.toByte :: bs)
    (hbody : decodeBody t bs = .ok i) : decode (encode i) = .ok i := by
  rw [henc, decode_toByte_cons, hbody]

theorem decode_encode_of_request {i : Instr} {c : Cmd} {pn : Byte} {p : List Byte} {crc : Half}
    (h : i.request = some (c, pn, p, crc)) : decode (encode i) = .ok i :=
  decode_encode_of_body (encode_of_request h).2 (decodeFrame_eq_ok_iff.mpr ⟨c, pn, p, crc, h, rfl⟩)

theorem decode_encode_of_wireByte {i : Instr} {b : Byte} (h : i.wireByte = some b) : decode (encode i) = .ok i :=
  decode_encode_of_body (encode_of_wireByte h).2 (decodeWire_eq_ok_iff.mpr ⟨b, h, rfl⟩)

/-- Every row, by the shape of its operands. -/
theorem decode_encode {i : Instr} (hwf : i.wf = true) : decode (encode i) = .ok i := by
  cases i with
  | rdkeys | wrline | setbl | clrdsp | setlang | getver | buzparam | buzctrl => exact decode_encode_of_request rfl
  | stx | etx | nul | digit0 | digit1 | digit2 | digit3 | digit4 | digit5 | digit6 | digit7 | digit8 | digit9 | digitA
  | digitB | digitC | digitD | digitE | digitF => exact decode_encode_of_wireByte rfl
  | csNoerr id => exact decode_encode_of_body rfl (decodeStatus_eq_ok_iff.mpr ⟨id, .inl ⟨rfl, rfl⟩⟩)
  | csErr id => exact decode_encode_of_body rfl (decodeStatus_eq_ok_iff.mpr ⟨id, .inr ⟨rfl, rfl⟩⟩)
  | fmtInv f line icon codes | fmtAl f line icon codes | fmtAr f line icon codes | fmtBlink f line icon codes =>
    exact decode_encode_of_body rfl (decodeFormat_eq_ok_iff.mpr ⟨f, line, icon, codes, hwf, rfl, rfl⟩)
  | ctrlData pixels => exact decode_encode_of_body rfl (decodeDataWord_eq_ok_iff.mpr ⟨pixels, rfl, rfl⟩)
  | displayOn | reset | txDone | tick | drainStep | schedArm | rxStx | rxNoise | rxEtx | txPump | txNext | fbClear
  | blinkTick | rxFieldChoice => exact decode_encode_of_body rfl rfl
  | columnAddress b | rxByte b | txPut b | hex2nib b | hex2 b | isStx b | isEtx b | trim b | tw b | rxFieldDigit b
  | rxDecodeError b => exact decode_encode_of_body rfl rfl
  | pageSelect p =>
    exact decode_encode_of_body rfl ((oneByte_map_eq_ok_iff (finOf_eq_some_iff (by decide))).mpr ⟨p, rfl, rfl⟩)
  | arm k | txFill k | clearSlot k =>
    exact decode_encode_of_body rfl ((oneByte_map_eq_ok_iff (finOf_eq_some_iff (by decide))).mpr ⟨k, rfl, rfl⟩)
  | nib2hex n | rxVpn n | rxVcmd n | rxVpay n | rxVcrc n =>
    exact decode_encode_of_body rfl ((oneByte_map_eq_ok_iff nibOf_eq_some_iff).mpr ⟨n, rfl, rfl⟩)
  | rxErrorPath cls =>
    exact decode_encode_of_body rfl ((oneByte_map_eq_ok_iff errClassOfCode_eq_some_iff).mpr ⟨cls, rfl, rfl⟩)
  | crc16 bytes => exact decode_encode_of_body rfl rfl
  | dispatch id payload => exact decode_encode_of_body rfl (decodeBody_dispatch_eq_ok_iff.mpr ⟨_, _, rfl, rfl⟩)
  | crc16Update crc b => exact decode_encode_of_body rfl (decodeBody_crc16Update_eq_ok_iff.mpr ⟨_, _, rfl, rfl⟩)
  | hex4 v => exact decode_encode_of_body rfl (decodeBody_hex4_eq_ok_iff.mpr ⟨_, rfl, rfl⟩)
  | validate id payload => exact decode_encode_of_body rfl (decodeBody_validate_eq_ok_iff.mpr ⟨_, _, rfl, rfl⟩)
  | writeBits =>
    exact decode_encode_of_body rfl (decodeBody_writeBits_eq_ok_iff.mpr ⟨_, _, _, _, hwf, rfl, rfl⟩)
  | stuffChar =>
    exact decode_encode_of_body rfl (decodeBody_stuffChar_eq_ok_iff.mpr ⟨_, _, _, _, _, _, _, hwf, rfl, rfl⟩)
  | blankCol => exact decode_encode_of_body rfl (decodeBody_blankCol_eq_ok_iff.mpr ⟨_, _, _, _, hwf, rfl, rfl⟩)
  | renderLine => exact decode_encode_of_body rfl (decodeBody_renderLine_eq_ok_iff.mpr ⟨_, _, _, hwf, rfl, rfl⟩)
  | putLine => exact decode_encode_of_body rfl (decodeBody_putLine_eq_ok_iff.mpr ⟨_, _, hwf, rfl, rfl⟩)
  | putQr => exact decode_encode_of_body rfl (decodeBody_putQr_eq_ok_iff.mpr ⟨_, _, _, hwf, rfl, rfl⟩)

/-- Settles O3: row by row, the operands' bytes are read back. -/
theorem decodeOfEncode : Obligations.DecodeOfEncode := fun _ hwf => decode_encode hwf

/-! ### O4 -/

/-- Every tag, by the shape of its row's operands. -/
theorem encode_of_decodeBody {t : Tag} {bs : List Byte} {i : Instr} (h : decodeBody t bs = .ok i) :
    i.wf = true ∧ encode i = t.toByte :: bs := by
  cases t with
  | wire =>
    obtain ⟨b, hb, rfl⟩ := decodeWire_eq_ok_iff.mp h
    exact encode_of_wireByte hb
  | frame =>
    obtain ⟨c, pn, p, crc, hi, rfl⟩ := decodeFrame_eq_ok_iff.mp h
    exact ⟨wf_of_request hi, (encode_of_request hi).2⟩
  | status =>
    obtain ⟨id, ⟨rfl, rfl⟩ | ⟨rfl, rfl⟩⟩ := decodeStatus_eq_ok_iff.mp h
    · exact ⟨rfl, rfl⟩
    · exact ⟨rfl, rfl⟩
  | fmtInv | fmtAl | fmtAr | fmtBlink =>
    obtain ⟨f, line, icon, codes, hflag, rfl, rfl⟩ := decodeFormat_eq_ok_iff.mp h
    exact ⟨hflag, rfl⟩
  | dataWord =>
    obtain ⟨pixels, rfl, rfl⟩ := decodeDataWord_eq_ok_iff.mp h
    exact ⟨rfl, rfl⟩
  | displayOn | reset | txDone | tick | drainStep | schedArm | rxStx | rxNoise | rxEtx | txPump | txNext | fbClear
  | blinkTick | rxFieldChoice =>
    obtain ⟨rfl, rfl⟩ := noOperand_eq_ok_iff.mp h
    exact ⟨rfl, rfl⟩
  | columnAddress | rxByte | txPut | hex2nib | hex2 | isStx | isEtx | trim | tw | rxFieldDigit | rxDecodeError =>
    obtain ⟨b, rfl, rfl⟩ := oneByte_some_eq_ok_iff.mp h
    exact ⟨rfl, rfl⟩
  | pageSelect | arm | txFill | clearSlot =>
    obtain ⟨k, rfl, rfl⟩ := (oneByte_map_eq_ok_iff (finOf_eq_some_iff (by decide))).mp h
    exact ⟨rfl, rfl⟩
  | nib2hex | rxVpn | rxVcmd | rxVpay | rxVcrc =>
    obtain ⟨n, rfl, rfl⟩ := (oneByte_map_eq_ok_iff nibOf_eq_some_iff).mp h
    exact ⟨rfl, rfl⟩
  | rxErrorPath =>
    obtain ⟨cls, rfl, rfl⟩ := (oneByte_map_eq_ok_iff errClassOfCode_eq_some_iff).mp h
    exact ⟨rfl, rfl⟩
  | crc16 =>
    obtain rfl := Decoded.ok.inj h
    exact ⟨rfl, rfl⟩
  | dispatch =>
    obtain ⟨id, payload, rfl, rfl⟩ := decodeBody_dispatch_eq_ok_iff.mp h
    exact ⟨rfl, rfl⟩
  | crc16Update =>
    obtain ⟨crc, b, rfl, rfl⟩ := decodeBody_crc16Update_eq_ok_iff.mp h
    exact ⟨rfl, rfl⟩
  | hex4 =>
    obtain ⟨v, rfl, rfl⟩ := decodeBody_hex4_eq_ok_iff.mp h
    exact ⟨rfl, rfl⟩
  | validate =>
    obtain ⟨id, payload, rfl, rfl⟩ := decodeBody_validate_eq_ok_iff.mp h
    exact ⟨rfl, rfl⟩
  | writeBits =>
    obtain ⟨value, start, width, column, hwf, rfl, rfl⟩ := decodeBody_writeBits_eq_ok_iff.mp h
    exact ⟨hwf, rfl⟩
  | stuffChar =>
    obtain ⟨row0, height, inv, hide, code, col, colHi, hwf, rfl, rfl⟩ := decodeBody_stuffChar_eq_ok_iff.mp h
    exact ⟨hwf, rfl⟩
  | blankCol =>
    obtain ⟨row0, height, inv, col, hwf, rfl, rfl⟩ := decodeBody_blankCol_eq_ok_iff.mp h
    exact ⟨hwf, rfl⟩
  | renderLine =>
    obtain ⟨line, content, isInternal, hwf, rfl, rfl⟩ := decodeBody_renderLine_eq_ok_iff.mp h
    exact ⟨hwf, rfl⟩
  | putLine =>
    obtain ⟨text, line, hwf, rfl, rfl⟩ := decodeBody_putLine_eq_ok_iff.mp h
    exact ⟨hwf, rfl⟩
  | putQr =>
    obtain ⟨version, offset, contrast, hwf, rfl, rfl⟩ := decodeBody_putQr_eq_ok_iff.mp h
    exact ⟨hwf, rfl⟩

/-- Settles O4: the tag is read from the first byte, and the bytes after it are the ones the row's operands spell. -/
theorem decodedPacketsAreEncodings : Obligations.DecodedPacketsAreEncodings := by
  intro bytes i h
  obtain ⟨t, bs, rfl, hbody⟩ := exists_decodeBody_of_decode h
  exact encode_of_decodeBody hbody

end Sys2Proof.Machine

/-! The packets the statements write out (30_encoding.md R85 to R100): O5 from the request rows' packets, O6 from
O3 and O4. -/

namespace Sys2Proof.Machine

/-! ### O5 -/

/-- `STX`, `ETX`, `NUL`, two digits for each of the packet number, the id and the payload bytes, and four for the CRC. -/
theorem length_frameBytes (pn cmd : Byte) (p : List Byte) (crc : Half) :
    (frameBytes pn cmd p crc).length = 11 + 2 * p.length := by
  simp only [frameBytes_eq_fields, hex2, hex4, List.length_cons, List.length_append, List.length_nil, length_flatMap_hex2]
  omega

/-- Settles O5: a request row's packet is its frame under the frame tag. -/
theorem requestFrameLayout : Obligations.RequestFrameLayout := by
  intro i c pn p crc h
  obtain ⟨hlen, henc⟩ := encode_of_request h
  refine ⟨hlen, ?bytes, ?length⟩
  case bytes =>
    rw [henc, frameBytes_eq_fields]
    simp only [List.append_assoc]
    rfl
  case length => rw [henc, List.length_cons, length_frameBytes, hlen, Nat.add_comm]

/-! ### O6 -/

/-- The decoder and the encoder are inverse to each other between the packets that decode and the well-formed rows. -/
theorem decode_eq_ok_iff {bytes : List Byte} {i : Instr} : decode bytes = .ok i ↔ i.wf = true ∧ encode i = bytes := by
  constructor
  · exact decodedPacketsAreEncodings bytes i
  · rintro ⟨hwf, rfl⟩
    exact decode_encode hwf

/-- Settles O6: a packet that decodes is compared with its row's encoding; a rejected one is followed through its
tag's rule. -/
theorem writtenOutWordsDecode : Obligations.WrittenOutWordsDecode := by
  refine ⟨?rdkeys, ?buzctrl, ?stx, ?digitF, ?notSymbol, ?csErr, ?badNibble, ?fmtAl, ?ctrlData, ?notData, ?pair, ?byte⟩
  case rdkeys | buzctrl | stx | digitF | csErr | fmtAl | ctrlData => exact decode_eq_ok_iff.mpr ⟨by decide, by decide⟩
  case notSymbol => exact (decode_toByte_cons .wire [0x47]).trans rfl
  case badNibble => exact (decode_toByte_cons .status [0x46]).trans rfl
  case notData => exact (decode_toByte_cons .dataWord [0x00, 0xA5]).trans rfl
  case pair | byte => exact decodeTableWord_eq_some_iff.mpr (decode_eq_ok_iff.mpr ⟨by decide, by decide⟩)

end Sys2Proof.Machine

/-! `RESET` and the boot-time write of the layout (10_state.md R300; 70_reset_and_hazards.md R311): the reset state, O7 and
O8; then `fresh`, which every row but `RESET` leaves as the step set it, and O2. -/

namespace Sys2Proof.Machine

/-! ### The reset state -/

theorem exec_reset (s : State) : exec .reset s = .next s.doReset := rfl

/-- Settles O7: the reset values are the ones R300 lists. -/
theorem resetPutsEveryRegisterAtItsResetValue : Obligations.ResetPutsEveryRegisterAtItsResetValue :=
  fun s => exec_reset s

/-- A reset state is its own reset. -/
theorem State.resetWith_doReset (cfg : Config) : (State.resetWith cfg).doReset = State.resetWith cfg := rfl

theorem State.resetWith_slot (cfg : Config) (i : Fin 3) : (State.resetWith cfg).slot i = Slot.cleared cfg.crcInit :=
  Vector.getElem_replicate i.isLt

theorem State.resetWith_displayInv {cfg : Config} (h : legalLayout cfg.lineLayout = true) :
    (State.resetWith cfg).displayInv where
  fb := rfl
  blink line hlive := by
    have hnone : (State.resetWith cfg).task[line.val] = BlinkTask.none := Vector.getElem_replicate line.isLt
    rw [hnone] at hlive
    cases hlive
  layout := ⟨h, h⟩
  ver p := by
    have hver : (State.resetWith cfg).ver[p.val] = 0 := Vector.getElem_replicate p.isLt
    have hsent : (State.resetWith cfg).sent[p.val] = 0 := Vector.getElem_replicate p.isLt
    rw [hver, hsent]
    exact ⟨Nat.two_pow_pos _, Nat.two_pow_pos _⟩

theorem State.resetWith_inv {cfg : Config} (h : legalLayout cfg.lineLayout = true) : (State.resetWith cfg).inv := by
  refine (State.inv_iff _).mpr ⟨State.resetWith_displayInv h, fun i => ?_⟩
  rw [State.resetWith_slot]
  exact Slot.cleared_ok _ _

theorem State.resetWith_rxInv (cfg : Config) : (State.resetWith cfg).rxInv := State.rxInv_of_closed rfl rfl

theorem State.resetWith_counterInv (cfg : Config) : (State.resetWith cfg).counterInv := by
  rw [← State.resetWith_doReset]
  exact State.doReset_counterInv _

/-- Three cleared slots, both indices at 0 and nothing in flight are the empty ring. -/
theorem State.resetWith_ringInv (cfg : Config) : (State.resetWith cfg).ringInv := by
  simp only [State.ringInv, State.resetWith_slot]
  rfl

/-- Settles O8, invariant by invariant; the default layout is legal. -/
theorem resetMeetsEveryInvariant : Obligations.ResetMeetsEveryInvariant := by
  have hall (cfg : Config) (h : legalLayout cfg.lineLayout = true) :
      (State.resetWith cfg).inv ∧ (State.resetWith cfg).rxInv ∧ (State.resetWith cfg).counterInv ∧
        (State.resetWith cfg).ringInv :=
    ⟨State.resetWith_inv h, State.resetWith_rxInv cfg, State.resetWith_counterInv cfg, State.resetWith_ringInv cfg⟩
  have hdefault : legalLayout Config.default.lineLayout = true := by decide
  obtain ⟨hinv, hrx, hcounter, hring⟩ := hall Config.default hdefault
  refine ⟨hall, hinv, hrx, hcounter, hring, fun s hcfg => ?_⟩
  rw [exec_reset, State.doReset, hcfg]
  rfl

/-! ### `fresh` through the shared operations -/

theorem State.txNext_fresh (s : State) : s.txNext.1.fresh = s.fresh := by rw [State.txNext_frame]
theorem State.txPump_fresh (s : State) : s.txPump.fresh = s.fresh := by rw [State.txPump_frame]
theorem State.txDone_fresh (s : State) : s.txDone.fresh = s.fresh := by rw [State.txDone_frame]
theorem State.arm_fresh (s : State) (i : Fin 3) : (s.arm i).fresh = s.fresh := by rw [State.arm_frame]
theorem State.errorPath_fresh (s : State) : s.errorPath.fresh = s.fresh := by rw [State.errorPath_frame]
theorem State.fbClear_fresh (s : State) : s.fbClear.fresh = s.fresh := by rw [State.fbClear_frame]
theorem State.blinkTick_fresh (s : State) : s.blinkTick.fresh = s.fresh := by rw [State.blinkTick_frame]
theorem State.drainStep_fresh (s : State) : s.drainStep.1.fresh = s.fresh := by rw [State.drainStep_frame]

theorem State.renderLine_fresh (s : State) (line : Fin 4) (content : Vector Byte 20) (isInternal : Bool) :
    (s.renderLine line content isInternal).fresh = s.fresh := by rw [State.renderLine_frame]

theorem State.putLine_fresh (s : State) (text : List Byte) (line : Nat) : (s.putLine text line).1.fresh = s.fresh := by
  rw [State.putLine_frame]

theorem State.putQr_fresh (s : State) (version offset : Nat) (contrast : Byte) :
    (s.putQr version offset contrast).1.fresh = s.fresh := by rw [State.putQr_frame]

theorem State.dispatch_fresh (s : State) (id : Byte) (payload : List Byte) :
    (s.dispatch id payload).1.fresh = s.fresh := by rw [State.dispatch_frame]

/-! ### `fresh` through the request machine -/

theorem State.rxStx_fresh (s : State) : s.rxStx.fresh = s.fresh := by
  rcases s.rxStx_cases with ⟨-, h⟩ | ⟨-, h⟩
  · rw [h]
  · rw [h]; rfl

theorem State.rxDispatch_fresh (s : State) : s.rxDispatch.fresh = s.fresh :=
  s.dispatch_fresh s.rxSlot.cmd s.rxPayload

theorem State.rxEtx_fresh (s : State) : s.rxEtx.fresh = s.fresh := by
  obtain ⟨u, -, h, rfl | rfl⟩ := s.rxEtx_eq
  · rw [h]; exact State.arm_fresh _ _
  · rw [h]; exact (State.arm_fresh _ _).trans s.rxDispatch_fresh

theorem State.rxCrc_fresh (s : State) (b : Byte) : (s.rxCrc b).fresh = s.fresh := by rw [State.rxCrc_frame]

theorem State.rxNibble_fresh (s : State) (n : Nibble) : (s.rxNibble n).1.fresh = s.fresh := by
  rcases s.rxNibble_cases n with ⟨-, h⟩ | ⟨-, h⟩
  all_goals rw [h]

theorem State.rxFieldChoice_fresh (s : State) : s.rxFieldChoice.fresh = s.fresh := by
  unfold State.rxFieldChoice
  split <;> rfl

theorem State.rxVpn_fresh (s : State) (n : Nibble) : (s.rxVpn n).fresh = s.fresh := by
  by_cases h : s.nibCnt = 0
  · rw [State.rxVpn_of_first h]
  · rw [State.rxVpn_of_second h]; rfl

theorem State.rxVcmd_fresh (s : State) (n : Nibble) : (s.rxVcmd n).fresh = s.fresh := by
  by_cases h : s.nibCnt = 0
  · rw [State.rxVcmd_of_first h]
  · cases hv : invalidId s.cfg (s.acc ||| n.zeroExtend 8) with
    | true => rw [State.rxVcmd_of_invalid h hv, State.errorPath_fresh]; rfl
    | false => rw [State.rxVcmd_of_valid h hv, State.rxFieldChoice_fresh]; rfl

theorem State.rxVpay_fresh (s : State) (n : Nibble) : (s.rxVpay n).fresh = s.fresh := by
  rcases s.rxVpay_cases n with ⟨-, h⟩ | ⟨v, -, h⟩ | ⟨v, h⟩ | ⟨v, h⟩
  · rw [h]
  · rw [h]; rfl
  · rw [h]; rfl
  · rw [h, State.errorPath_fresh]; rfl

theorem State.rxVcrc_fresh (s : State) (n : Nibble) : (s.rxVcrc n).fresh = s.fresh := by
  rcases s.rxVcrc_cases n with h | h | h
  · rw [h]; rfl
  · rw [h]; rfl
  · rw [h, State.errorPath_fresh]; rfl

theorem fieldRule_fresh (x : RxState) (s : State) (n : Nibble) : (fieldRule x s n).fresh = s.fresh := by
  cases x with
  | vf => rfl
  | vpn => exact s.rxVpn_fresh n
  | vcmd => exact s.rxVcmd_fresh n
  | vpay => exact s.rxVpay_fresh n
  | vcrc => exact s.rxVcrc_fresh n

theorem State.rxByte_fresh (s : State) (b : Byte) : (s.rxByte b).fresh = s.fresh := by
  rcases s.rxByte_cases b with ⟨-, -, -, h⟩ | ⟨-, -, -, h⟩ | ⟨-, -, -, h⟩ | ⟨-, -, h⟩ | ⟨-, -, -, -, h⟩ |
    ⟨n, -, -, -, -, h⟩
  · rw [h, State.rxStx_fresh]
  · rw [h, State.rxEtx_fresh]
  · rw [h]; rfl
  · rw [h, State.errorPath_fresh]
  · rw [h, State.errorPath_fresh, State.rxCrc_fresh]
  · rw [h, fieldRule_fresh, State.rxCrc_fresh]

theorem State.rxRequest_fresh (s : State) (c : Cmd) (pn : Byte) (payload : List Byte) (crc : Half) :
    (s.rxRequest c pn payload crc).fresh = s.fresh :=
  State.rxBytes_keeps (P := fun t => t.fresh = s.fresh) (fun t b h => (t.rxByte_fresh b).trans h) _ rfl

theorem State.rxFieldDigit_fresh (s : State) (b : Byte) : (s.rxFieldDigit b).fresh = s.fresh := by
  unfold State.rxFieldDigit
  rcases s.rxFront_cases b with ⟨-, h⟩ | ⟨-, -, -, h⟩ | ⟨n, -, -, -, h⟩
  · rw [h]; exact s.errorPath_fresh
  · rw [h]; exact (State.errorPath_fresh _).trans (s.rxCrc_fresh b)
  · rw [h]
    dsimp only
    split
    · rw [State.ret_fresh, State.rxNibble_fresh, State.rxCrc_fresh]
    · rw [State.ret_fresh, State.rxCrc_fresh]

/-! ### O2 -/

theorem fresh_of_next {s t u : State} (h : (.next u : Host.Outcome State Fault Refusal) = .next t)
    (hu : u.fresh = s.fresh) : t.fresh = s.fresh := Host.Outcome.next.inj h ▸ hu

/-- Only `RESET` sets `fresh` (log 13). -/
theorem exec_fresh {i : Instr} {s t : State} (hi : i ≠ .reset) (h : exec i s = .next t) : t.fresh = s.fresh := by
  cases i with
  | reset => exact absurd rfl hi
  | rdkeys | wrline | setbl | clrdsp | setlang | getver | buzparam | buzctrl =>
    exact fresh_of_next h (s.rxRequest_fresh _ _ _ _)
  | stx | etx | nul | digit0 | digit1 | digit2 | digit3 | digit4 | digit5 | digit6 | digit7 | digit8 | digit9 | digitA
  | digitB | digitC | digitD | digitE | digitF | rxByte => exact fresh_of_next h (s.rxByte_fresh _)
  | fmtInv | fmtAl | fmtAr | fmtBlink | putLine => exact fresh_of_next h (s.putLine_fresh _ _)
  | renderLine line content isInternal =>
    change execRenderLine line content isInternal s = .next t at h
    unfold execRenderLine at h
    split at h
    · exact fresh_of_next h (s.renderLine_fresh _ _ _)
    · cases h
  | putQr => exact fresh_of_next h (s.putQr_fresh _ _ _)
  | fbClear => exact fresh_of_next h s.fbClear_fresh
  | tick | blinkTick => exact fresh_of_next h s.blinkTick_fresh
  | drainStep => exact fresh_of_next h s.drainStep_fresh
  | dispatch => exact fresh_of_next h (s.dispatch_fresh _ _)
  | rxStx => exact fresh_of_next h s.rxStx_fresh
  | rxEtx => exact fresh_of_next h s.rxEtx_fresh
  | rxVpn => exact fresh_of_next h (s.rxVpn_fresh _)
  | rxVcmd => exact fresh_of_next h (s.rxVcmd_fresh _)
  | rxVpay => exact fresh_of_next h (s.rxVpay_fresh _)
  | rxVcrc => exact fresh_of_next h (s.rxVcrc_fresh _)
  | rxFieldDigit => exact fresh_of_next h (s.rxFieldDigit_fresh _)
  | rxFieldChoice => exact fresh_of_next h s.rxFieldChoice_fresh
  | rxErrorPath | rxDecodeError => exact fresh_of_next h s.errorPath_fresh
  | arm => exact fresh_of_next h (s.arm_fresh _)
  | txDone => exact fresh_of_next h s.txDone_fresh
  | txPump => exact fresh_of_next h s.txPump_fresh
  | txNext => exact fresh_of_next h s.txNext_fresh
  | csNoerr | csErr | ctrlData | pageSelect | columnAddress | displayOn | txPut | schedArm | crc16Update | crc16 | hex2nib
  | nib2hex | hex2 | hex4 | isStx | isEtx | validate | trim | tw | rxNoise | clearSlot | txFill | writeBits | stuffChar
  | blankCol => exact fresh_of_next h rfl

/-- R46 in the words of its rule. -/
theorem legalLayout_iff {l : Vector LineLayout 4} :
    legalLayout l = true ↔ (∀ x ∈ l.toList, 1 ≤ x.height.toNat) ∧
      (l.toList.map fun x => x.upperIndent.toNat + x.height.toNat).sum = 48 := by
  rw [legalLayout, Bool.and_eq_true, List.all_eq_true, decide_eq_true_eq]
  simp only [decide_eq_true_eq]
  rfl

theorem step_of_layout {s : State} {l : Vector LineLayout 4} {rest : List Input} (hs : s.pending = .layout l :: rest) :
    step s = ({ s with pending := rest } : State).writeLayout l := by
  simp [step, hs]

theorem State.writeLayout_of_legal {s : State} {l : Vector LineLayout 4} (hf : s.fresh = true)
    (hl : legalLayout l = true) : s.writeLayout l = .next { s with layout := l } := by
  rw [State.writeLayout, if_pos hf, if_pos hl]

theorem State.writeLayout_of_illegal {s : State} {l : Vector LineLayout 4} (hf : s.fresh = true)
    (hl : ¬legalLayout l = true) : s.writeLayout l = .refused .illegalLayout := by
  rw [State.writeLayout, if_pos hf, if_neg hl]

theorem State.writeLayout_of_late {s : State} {l : Vector LineLayout 4} (hf : s.fresh = false) :
    s.writeLayout l = .refused .layoutAfterBoot := by
  rw [State.writeLayout, if_neg (by rw [hf]; exact Bool.false_ne_true)]

/-- Settles O2: a layout input by `fresh` and the legality of the layout, then `fresh` after a row, `RESET` apart. -/
theorem layoutIsWrittenAtInitTimeOnly : Obligations.LayoutIsWrittenAtInitTimeOnly := by
  refine ⟨fun s l rest hs => ⟨fun hf hl => ?legal, fun hf hl => ?illegal, fun hf => ?late⟩,
    fun s t bytes rest i hs hd h => ?row⟩
  case legal => exact (step_of_layout hs).trans (State.writeLayout_of_legal hf (legalLayout_iff.mpr hl))
  case illegal => exact (step_of_layout hs).trans (State.writeLayout_of_illegal hf (legalLayout_iff.not.mpr hl))
  case late => exact (step_of_layout hs).trans (State.writeLayout_of_late hf)
  case row =>
    rw [step_of_packet_ok hs hd] at h
    by_cases hi : i = .reset
    · subst hi
      obtain rfl := Host.Outcome.next.inj h
      exact iff_of_true rfl rfl
    · have hfresh : t.fresh = false := exec_fresh hi h
      exact iff_of_false (by rw [hfresh]; exact Bool.false_ne_true) hi

end Sys2Proof.Machine
